-- ==== Sys2Proof/Word.lean ====
section
/-! DEFINITION. The plain words, names and rectangles that every file of the model uses: bus words, pixels,
port names, one value for each port, layers, slot numbers, handles, regions and block names. -/

namespace Sys2Proof

/-- A bus word of a host port (R161, "Data widths" of spec/00_scope.md). -/
abbrev Word := BitVec 32

/-- A pixel: sixteen one-bit planes, plane 0 the least significant (R3). -/
abbrev Pixel := BitVec 16

/-- One byte of surface memory (R2). -/
abbrev Byte := BitVec 8

/-- The four host ports P0 to P3. -/
inductive Port where
  | p0
  | p1
  | p2
  | p3
deriving DecidableEq, Repr

/-- The ports in number order. -/
def Port.all : List Port := [.p0, .p1, .p2, .p3]

/-- The port's number, 0 to 3 (R171, PORT_INFO). -/
def Port.number : Port → Nat
  | .p0 => 0
  | .p1 => 1
  | .p2 => 2
  | .p3 => 3

/-- One value for each of the four ports. -/
structure PerPort (α : Type) where
  p0 : α
  p1 : α
  p2 : α
  p3 : α
deriving DecidableEq, Repr

/-- The value held for port `p`. -/
def PerPort.get {α : Type} (q : PerPort α) : Port → α
  | .p0 => q.p0
  | .p1 => q.p1
  | .p2 => q.p2
  | .p3 => q.p3

/-- The family with the value of port `p` replaced. -/
def PerPort.set {α : Type} (q : PerPort α) (p : Port) (v : α) : PerPort α :=
  match p with
  | .p0 => { q with p0 := v }
  | .p1 => { q with p1 := v }
  | .p2 => { q with p2 := v }
  | .p3 => { q with p3 := v }

/-- The same value for every port. -/
def PerPort.const {α : Type} (v : α) : PerPort α := ⟨v, v, v, v⟩

/-- A layer, L0 at the bottom to L3 at the top. -/
abbrev Layer := Fin 4

/-- A slot of the window table, 0 to 31 (R18). -/
abbrev SlotNo := Fin 32

/-- A handle: a slot number together with a generation (R20). -/
structure Handle where
  slot : SlotNo
  generation : BitVec 8
deriving DecidableEq, Repr

/-- A rectangle of one layer: top-left pixel, width and height. -/
structure Region where
  x : Nat
  y : Nat
  width : Nat
  height : Nat
deriving DecidableEq, Repr

/-- The name of a block: its layer, its row and its block column (section 1.1). -/
structure BlockName where
  layer : Layer
  row : Nat
  column : Nat
deriving DecidableEq, Repr

/-- The sixteen pixels of one block, from left to right (R2). -/
abbrev Block := Vector Pixel 16

end Sys2Proof
end

