-- ==== Sys2Proof/Config.lean ====
section
/-! DEFINITION. The values the manual leaves open: free values with no body, so that no claim can rest on a choice
of theirs. -/

namespace Sys2Proof

/-- What the memory device holds at a byte address that nothing has written since power-up (R2, R136:
"returns whatever the device holds"). A free value: it has no body. Log entry 3. -/
opaque Config.powerUpByte : Nat → Byte

/-- Pixel `i` of the block that the `n`-th abandoned block write left "in an unknown state" (R14, R135).
A free value: it has no body. Log entry 4. -/
opaque Config.unknownPixel : Nat → Nat → Pixel

/-- Whether, at the `n`-th tick at which the data timer and a waiting request run out together, the engine's
timeout event is taken before the Lease Manager's. The manual orders the two nowhere (R57, R103). A free
value: it has no body. Log entry 8. -/
opaque Config.dataTimeoutFirst : Nat → Bool

end Sys2Proof
end

