-- ==== Sys2Proof/Syntax.lean ====
section
/-! DEFINITION. The commands of the block: one constructor of `Instr` for each row of spec/opcode_table.json,
in the table's order, with the operands that the rule of its row names. -/

namespace Sys2Proof

/-- The level of a port reset pin. -/
inductive PinLevel where
  | asserted
  | released
deriving DecidableEq, Repr

/-- The two precedence strap pins of one port, PRECn_A and PRECn_B (section 12.8). -/
structure PrecedencePins where
  a : Bool
  b : Bool
deriving DecidableEq, Repr

/-- The strap pins as they stand when device reset ends (R4): the precedence straps of each port and MSIZE. -/
structure Straps where
  precedence : PerPort PrecedencePins
  msize : Bool
deriving DecidableEq, Repr

/-- The fields of the configuration block (R7). -/
inductive ConfigField where
  | width
  | height
  | hblank
  | vblank
  | background
  | quota (p : Port)
  | drainMark
  | dataTimeout
  | starveLimit
  | clearOnCommit
deriving DecidableEq, Repr

/-- The two numbers of the SUBMIT kind field that name no kind (R165): 0 and 7. -/
inductive NoKind where
  | kind0
  | kind7
deriving DecidableEq, Repr

/-- An access that R162 ignores with BAD_OFFSET: a byte or half-word access at any offset, or a word access at an
offset that holds no register. -/
inductive BadAccess where
  | narrowRead (offset : BitVec 8)
  | narrowWrite (offset : BitVec 8)
  | unmappedRead (offset : BitVec 8)
  | unmappedWrite (offset : BitVec 8)
deriving DecidableEq, Repr

/-- The commands: the accesses of the host ports, the pins, and the events of the part's own blocks. -/
inductive Instr where
  /-- DEVICE_RESET (R16): the device reset pin is asserted. -/
  | deviceReset
  /-- DEVICE_RESET_END (R4): the device reset pin is deasserted, with the strap pins at these levels. -/
  | deviceResetEnd (straps : Straps)
  /-- PORT_RESET (R174, R163): the reset pin of port `p` takes the level. -/
  | portReset (p : Port) (level : PinLevel)
  /-- CONFIG_WRITE (R8, R9): port `p` writes the word to a configuration field. -/
  | configWrite (p : Port) (field : ConfigField) (word : Word)
  /-- COMMIT (R10, R13): port `p` writes the word, which is ignored, to the commit register. -/
  | commit (p : Port) (word : Word)
  /-- FILL (R67): a SUBMIT write of kind FILL. -/
  | fill (p : Port) (tag : BitVec 8) (notify : Bool)
  /-- PATTERN (R67): a SUBMIT write of kind PATTERN. -/
  | pattern (p : Port) (tag : BitVec 8) (notify : Bool)
  /-- COPY (R67): a SUBMIT write of kind COPY. -/
  | copy (p : Port) (tag : BitVec 8) (notify : Bool)
  /-- UPLOAD (R67): a SUBMIT write of kind UPLOAD. -/
  | upload (p : Port) (tag : BitVec 8) (notify : Bool)
  /-- READBACK (R67): a SUBMIT write of kind READBACK. -/
  | readback (p : Port) (tag : BitVec 8) (notify : Bool)
  /-- FENCE (R66): a SUBMIT write of kind FENCE, with its token. -/
  | fence (p : Port) (token : BitVec 16)
  /-- BAD_KIND (R165): a SUBMIT write whose kind field is 0 or 7. -/
  | badKind (p : Port) (kind : NoKind)
  /-- REQUEST (R41): a LEASE_OP write of operation REQUEST. -/
  | request (p : Port)
  /-- RELEASE (R50): a LEASE_OP write of operation RELEASE, with its handle. -/
  | release (p : Port) (handle : Handle)
  /-- SET_VISIBLE (R51): a LEASE_OP write of operation SET_VISIBLE, with its handle and value. -/
  | setVisible (p : Port) (handle : Handle) (visible : Bool)
  /-- CANCEL (R52): a LEASE_OP write of operation CANCEL. -/
  | cancel (p : Port)
  /-- UPLOAD_PUSH (R168): a write of the word to UPLOAD_PUSH. -/
  | uploadPush (p : Port) (word : Word)
  /-- READBACK_POP (R169): a read of READBACK_POP. -/
  | readbackPop (p : Port)
  /-- NOTICE_WORD1 (R179): a read of NOTICE_WORD1. -/
  | noticeWord1 (p : Port)
  /-- ACCESS_ERROR (R170): a read of ACCESS_ERROR. -/
  | accessError (p : Port)
  /-- LOSS_COUNT (R178): a read of LOSS_COUNT. -/
  | lossCount (p : Port)
  /-- ABORT (R78): a CONTROL write with ABORT set and DETACH clear. -/
  | abort (p : Port)
  /-- DETACH (R174): a CONTROL write with DETACH set; the flag says whether ABORT is set too (R172). -/
  | detach (p : Port) (abortToo : Bool)
  /-- INT_ENABLE (R172, R173): a write of the word to INT_ENABLE. -/
  | intEnable (p : Port) (word : Word)
  /-- NOTICE_ENABLE (R181): a write of the word to NOTICE_ENABLE. -/
  | noticeEnable (p : Port) (word : Word)
  /-- REGISTER_WRITE (R188, R162): a word write at an offset whose write has no row of its own. -/
  | registerWrite (p : Port) (offset : BitVec 8) (word : Word)
  /-- BAD_OFFSET (R162): a narrow access, or an access at an unmapped offset. -/
  | badOffset (p : Port) (access : BadAccess)
  /-- LEASE_TIMEOUT (R57): the remaining time of port `p`'s waiting request reaches 0. -/
  | leaseTimeout (p : Port)
  /-- DATA_TIMEOUT (R103): the engine's data timer reaches 0. -/
  | dataTimeout
  /-- FRAME_START (R148, R34): the timing generator starts a frame. -/
  | frameStart
  /-- LINE_DUE (R152, R154): the next visible line falls due. -/
  | lineDue
  /-- GRANT_EVENT (R139): the channel arbiter grants one standing request. -/
  | grantEvent
  /-- UNDERFILL_COMPLETION (R123): the underfill read in flight completes. -/
  | underfillCompletion
  /-- BLOCK_WRITE_COMPLETION (R124): the drain's block write in flight completes. -/
  | blockWriteCompletion
  /-- ENGINE_READ_DELIVERY (R119): the engine read in flight completes and is delivered. -/
  | engineReadDelivery
  /-- FETCH_COMPLETION (R151): the Composer's block read in flight completes. -/
  | fetchCompletion
  /-- CLEAR_WRITE_COMPLETION (R14): the clear pass's block write in flight completes. -/
  | clearWriteCompletion
  /-- CHOICE_EVENT (R73): the Command Arbiter picks a port and hands over its head command. -/
  | choiceEvent
  /-- FENCE_TAKE (R77): the FENCE at the head of port `p`'s queue is taken as a marker. -/
  | fenceTake (p : Port)
  /-- SPAN_POST (R113): the engine posts its computed span. -/
  | spanPost
  /-- FORWARDED_READ (R118): the engine raises the next forwarded read of its span. -/
  | forwardedRead
  /-- UPLOAD_POP (R98): the engine takes its next upload word, or finds the FIFO empty. -/
  | uploadPop
  /-- READBACK_PUSH (R101): the engine pushes its next readback word, or finds the FIFO full. -/
  | readbackPush
  /-- SPAN_SKIP (R91): a span whose every pixel is skipped is finished. -/
  | spanSkip
  /-- MARK_EVENT (R106): the engine takes its end mark. -/
  | markEvent
  /-- COMMAND_END (R104): the engine's command ends DONE. -/
  | commandEnd
  /-- TRAILING_BLANK_LINE (R146): the generator begins the next trailing blank line. -/
  | trailingBlankLine
deriving DecidableEq, Repr

end Sys2Proof
end

