-- ==== Sys2Proof/Decode.lean ====
section
/-! DEFINITION. The table's own encoding. No row of spec/opcode_table.json gives bits ("fields" is empty in every row):
the commands are accesses, pins and events, not words, so that no word spells one. -/

namespace Sys2Proof

/-- The command that a word spells by the table's bits: none, since no row gives bits. -/
def decodeTableWord (_nbits _w : Nat) : Option Instr := none

end Sys2Proof
end

