-- ==== Sys2Proof/Machine/State.lean ====
section
/-! DEFINITION. The state of the part as plain data, block by block as the manual's block overview divides it, and
the state right after device reset. -/

namespace Sys2Proof.Machine

/-! ### Configuration logic (section 1) -/

/-- The global states (R5, R6). -/
inductive GlobalState where
  | setup
  | clearing
  | run
deriving DecidableEq, Repr

/-- The commit results (R10, section 10.5). -/
inductive CommitResult where
  | none
  | ok
  | badWidth
  | badHeight
  | badBlank
  | badQuota
  | tooLarge
  | badMark
  | badTimeout
  | badLimit
deriving DecidableEq, Repr

/-- The configuration block (R7): each field has the width that the table gives it. -/
structure ConfigBlock where
  width : BitVec 11
  height : BitVec 11
  hblank : BitVec 11
  vblank : BitVec 8
  background : Pixel
  quota : PerPort (BitVec 6)
  drainMark : BitVec 7
  dataTimeout : BitVec 16
  starveLimit : BitVec 4
  clearOnCommit : Bool
deriving DecidableEq, Repr

/-- The defaults of R7. -/
def ConfigBlock.default : ConfigBlock where
  width := 640
  height := 480
  hblank := 160
  vblank := 45
  background := 0
  quota := .const 8
  drainMark := 16
  dataTimeout := 1000
  starveLimit := 4
  clearOnCommit := true

/-- The size of the surface memory device that the MSIZE strap gives (R4). -/
inductive MemorySize where
  | mib16
  | mib32
deriving DecidableEq, Repr

/-! ### Window table (section 2) -/

/-- The rights of a window: a subset of DRAW, READ and SHOW (R18). -/
structure Rights where
  mayDraw : Bool
  mayRead : Bool
  mayShow : Bool
deriving DecidableEq, Repr

/-- The fields of a window record that are present while its slot is not FREE (R19). -/
structure Window where
  owner : Port
  layer : Layer
  region : Region
  rights : Rights
  visible : Bool
  key : Option Pixel
deriving DecidableEq, Repr

/-- The state of a slot with the fields that are present in it (R19, R21): a FREE slot has no window and no
frame_passed, a HELD one a window, a DRAINING or REVOKED one both. -/
inductive SlotState where
  | free
  | held (window : Window)
  | draining (window : Window) (framePassed : Bool)
  | revoked (window : Window) (framePassed : Bool)
deriving DecidableEq, Repr

/-- One slot of the window table (R18). -/
structure Slot where
  state : SlotState
  generation : BitVec 8
  outstanding : Nat
deriving DecidableEq, Repr

/-- A slot at the end of device reset (R36). -/
def Slot.reset : Slot := ⟨.free, 0, 0⟩

/-! ### Lease slots and the wait list (section 3) -/

/-- The last operation of a lease slot (R38). -/
inductive LeaseOperation where
  | none
  | request
  | release
  | setVisible
  | cancel
deriving DecidableEq, Repr

/-- The lease result codes (R39, R189). -/
inductive LeaseResult where
  | none
  | notReady
  | busy
  | badRegion
  | noQuota
  | noSlot
  | conflict
  | granted
  | waiting
  | timedOut
  | stale
  | notOwner
  | notHeld
  | released
  | noRight
  | visibilitySet
  | cancelled
  | nothingWaiting
deriving DecidableEq, Repr

/-- The items of a REQUEST whose layer, region and rights are acceptable (R40, R42). -/
structure LeaseRequest where
  layer : Layer
  region : Region
  rights : Rights
  visible : Bool
  key : Option Pixel
  wait : Bool
  preempt : Bool
  timeout : BitVec 16
deriving DecidableEq, Repr

/-- A waiting request with its remaining time in µs, present when its timeout is not 0, and its park time: its place in the
order of the events in which requests parked (R38, log entry 11). -/
structure WaitingRequest where
  request : LeaseRequest
  remaining : Option Nat
  parkTime : Nat
deriving DecidableEq, Repr

/-- The last-result record, replaced whole at each operation and deferred outcome (R38). -/
structure LeaseRecord where
  operation : LeaseOperation
  result : LeaseResult
  handle : Option Handle
deriving DecidableEq, Repr

/-- One port's lease slot: IDLE when no request waits, WAITING when one does (R38). -/
structure LeaseSlot where
  waiting : Option WaitingRequest
  record : LeaseRecord
deriving DecidableEq, Repr

/-- The lease slot after device reset and after detach (R62, R63). -/
def LeaseSlot.reset : LeaseSlot := ⟨none, ⟨.none, .none, none⟩⟩

/-! ### Commands (section 4) -/

/-- What a drawing kind carries beside its tag, NOTIFY flag, handle and region (R65). -/
inductive DrawKind where
  | fill (rop : BitVec 4) (planeMask : Pixel) (colour : Pixel)
  | pattern (rop : BitVec 4) (planeMask : Pixel) (foreground background : Pixel) (cells : BitVec 64)
      (originX originY : Nat) (transparent : Bool)
  | copy (rop : BitVec 4) (planeMask : Pixel) (source : Handle) (sourceX sourceY : Nat) (key : Option Pixel)
  | upload (rop : BitVec 4) (planeMask : Pixel) (key : Option Pixel)
  | readback
deriving DecidableEq, Repr

/-- A drawing command record (R64, R65). -/
structure DrawCommand where
  tag : BitVec 8
  notify : Bool
  handle : Handle
  region : Region
  kind : DrawKind
deriving DecidableEq, Repr

/-- A command of a command queue: a drawing command, or a FENCE with its token alone (R64, R66). -/
inductive Command where
  | draw (command : DrawCommand)
  | fence (token : BitVec 16)
deriving DecidableEq, Repr

/-- The submit results (R67, section 10.5). -/
inductive SubmitResult where
  | none
  | accepted
  | notReady
  | queueFull
  | badKind
  | badField
deriving DecidableEq, Repr

/-! ### Notices (section 10) -/

/-- The fault codes of COMMAND_FAULT (R105, R189). -/
inductive FaultCode where
  | staleHandle
  | notOwner
  | windowLost
  | noRight
  | outOfWindow
  | dataTimeout
  | aborted
deriving DecidableEq, Repr

/-- A notice: its kind and the contents of its fields A and B (R176). -/
inductive Notice where
  | leaseGranted (handle : Handle)
  | leaseTimedOut
  | windowRevoked (handle : Handle) (requester : Port)
  | windowFreed (handle : Handle)
  | commandDone (tag : BitVec 8)
  | commandFault (tag : BitVec 8) (code : FaultCode) (spans : Nat)
  | queueAborted (count : Nat)
  | fenceDone (token : BitVec 16)
  | frameStarted (frame : BitVec 16)
  | underrun (frame : BitVec 16) (line : Nat)
  | surfaceReady
  | configRejected (code : CommitResult)
deriving DecidableEq, Repr

/-! ### Host Port Units (section 9) -/

/-- The access-error status of a port (R170). -/
inductive AccessError where
  | none
  | locked
  | fifoFull
  | fifoEmpty
  | badOffset
deriving DecidableEq, Repr

/-- The command staging fields, each as wide as section 12.3 holds it (R164, R188). -/
structure CommandStaging where
  slot : BitVec 6
  generation : BitVec 8
  x : BitVec 12
  y : BitVec 12
  width : BitVec 12
  height : BitVec 12
  rop : BitVec 4
  planeMask : BitVec 16
  colour : BitVec 16
  foreground : BitVec 16
  background : BitVec 16
  pattern0 : BitVec 32
  pattern1 : BitVec 32
  originX : BitVec 4
  originY : BitVec 4
  transparent : Bool
  sourceSlot : BitVec 6
  sourceGeneration : BitVec 8
  sourceX : BitVec 12
  sourceY : BitVec 12
  keyValue : BitVec 16
  keyPresent : Bool
deriving DecidableEq, Repr

/-- Every command staging field 0, the source key absent and transparent background no (R175). -/
def CommandStaging.reset : CommandStaging :=
  ⟨0, 0, 0, 0, 0, 0, 0, 0, 0, 0, 0, 0, 0, 0, 0, false, 0, 0, 0, 0, 0, false⟩

/-- The lease staging fields, each as wide as section 12.4 holds it (R166, R188). -/
structure LeaseStaging where
  layer : BitVec 3
  mayDraw : Bool
  mayRead : Bool
  mayShow : Bool
  x : BitVec 12
  y : BitVec 12
  width : BitVec 12
  height : BitVec 12
  keyValue : BitVec 16
  keyPresent : Bool
  visible : Bool
  timeout : BitVec 16
  wait : Bool
  preempt : Bool
deriving DecidableEq, Repr

/-- Every lease staging item 0, the key absent, WAIT and PREEMPT clear (R175). -/
def LeaseStaging.reset : LeaseStaging :=
  ⟨0, false, false, false, 0, 0, 0, 0, 0, false, false, 0, false, false⟩

/-- One Host Port Unit: the port-owned state of R175, the level of the port's reset pin (R163), and the model's own
`readData`, the word that the port's most recent acting read returned (log entry 6). -/
structure HostPort where
  command : CommandStaging
  lease : LeaseStaging
  submitResult : SubmitResult
  /-- The command queue, oldest first (R70). -/
  queue : List Command
  /-- The upload FIFO, oldest word first (R168). -/
  upload : List Word
  /-- The readback FIFO, oldest word first (R169). -/
  readback : List Word
  /-- The notice queue, oldest first (R177). -/
  notices : List Notice
  lossCount : Nat
  /-- NOTICE_ENABLE: bit `k` enables kind code `k`, bits 0 and 3 hold nothing (section 12.5). -/
  noticeEnable : BitVec 14
  intEnable : Bool
  accessError : AccessError
  pixelsWritten : BitVec 32
  pixelsKeyed : BitVec 32
  commandsDone : BitVec 32
  commandsFaulted : BitVec 32
  resetPin : PinLevel
  readData : Word
deriving DecidableEq, Repr

/-- An HPU at the end of device reset with its reset pin released (R175, R187). -/
def HostPort.reset : HostPort where
  command := .reset
  lease := .reset
  submitResult := .none
  queue := []
  upload := []
  readback := []
  notices := []
  lossCount := 0
  noticeEnable := 0x3BF6
  intEnable := false
  accessError := .none
  pixelsWritten := 0
  pixelsKeyed := 0
  commandsDone := 0
  commandsFaulted := 0
  resetPin := .released
  readData := 0

/-! ### Raster Engine (section 5) -/

/-- The engine states (R83). -/
inductive EngineState where
  | idle
  | run
  | waitRead
  | waitBuffer
  | waitData
  | waitRoom
deriving DecidableEq, Repr

/-- The order of the rows of a command (R88, R89). -/
inductive RowOrder where
  | downward
  | upward
deriving DecidableEq, Repr

/-- The order of the blocks within a row of a command (R88, R89). -/
inductive BlockOrder where
  | rightward
  | leftward
deriving DecidableEq, Repr

/-- The clipped rectangle: offsets from the region's top-left corner, width and height (R82, R86, R87). -/
structure Clip where
  dx : Nat
  dy : Nat
  width : Nat
  height : Nat
deriving DecidableEq, Repr

/-- The span being worked: a row and a block column (R82). -/
structure SpanPosition where
  row : Nat
  column : Nat
deriving DecidableEq, Repr

/-- What has been done for the current span (R82): the upload pixels gathered, the COPY source blocks delivered, the
destination block delivered, and the readback pixels read and not yet pushed or carried. -/
structure SpanWork where
  gathered : List Pixel
  sourceBlocks : List Block
  destBlock : Option Block
  stream : List Pixel
deriving DecidableEq, Repr

/-- The work of a span that has just begun. -/
def SpanWork.empty : SpanWork := ⟨[], [], none, []⟩

/-- The items that are present only while the engine holds a command (R82), with the layers of its windows, which the
engine keeps from its start checks (R65: the layer of a command is the layer of its window). `position` is absent
once every span is finished. `endDue` is the model's own: the ABORT that set the end mark found the last span finished
already (R79, R106, log entry 25). -/
structure ActiveCommand where
  port : Port
  command : DrawCommand
  layer : Layer
  sourceLayer : Layer
  clip : Clip
  rows : RowOrder
  blocks : BlockOrder
  position : Option SpanPosition
  work : SpanWork
  uploadCarry : Option Pixel
  readbackCarry : Option Pixel
  dataTimer : Option Nat
  endMark : Bool
  endDue : Bool
  spansCompleted : Nat
deriving DecidableEq, Repr

/-- The Raster Engine (R82). `retryPost` says that the buffer has signalled a departure to the engine in WAIT_BUFFER,
which raises its refused post again (R116, R125). -/
structure Engine where
  state : EngineState
  current : Option ActiveCommand
  outstandingRead : Bool
  retryPost : Bool
deriving DecidableEq, Repr

/-- The engine at the end of device reset (R109). -/
def Engine.reset : Engine := ⟨.idle, none, false, false⟩

/-! ### Pending-Write Buffer (section 6) -/

/-- The states of a buffer entry (R111). -/
inductive EntryState where
  | opened
  | closed
  | filling
  | writing
  | voided
deriving DecidableEq, Repr

/-- A set of pixel positions 0 to 15 of a block (R110). -/
abbrev PixelMask := Vector Bool 16

/-- A buffer entry (R110): position `i` of the mask says whether the entry holds pixel `i` of its block. -/
structure Entry where
  block : BlockName
  mask : PixelMask
  data : Block
  handle : Handle
  port : Port
  state : EntryState
deriving DecidableEq, Repr

/-- A fence marker (R129). -/
structure Marker where
  port : Port
  token : BitVec 16
deriving DecidableEq, Repr

/-- A place of the age order: an entry, or a marker standing between its older and its younger entries (R129). -/
inductive AgeItem where
  | entry (entry : Entry)
  | marker (marker : Marker)
deriving DecidableEq, Repr

/-- The recorded engine read: its block, and whether its request has been granted (R119, R139). -/
structure EngineRead where
  block : BlockName
  granted : Bool
deriving DecidableEq, Repr

/-- The Pending-Write Buffer: its entries and markers in one age order, oldest first, the recorded engine read and its
four device counters (R132). -/
structure Buffer where
  items : List AgeItem
  engineRead : Option EngineRead
  merges : BitVec 32
  fullForwards : BitVec 32
  underfills : BitVec 32
  voided : BitVec 32
deriving DecidableEq, Repr

/-- The buffer at the end of device reset (R133). -/
def Buffer.reset : Buffer := ⟨[], none, 0, 0, 0, 0⟩

/-! ### Surface Memory Interface (sections 1.6 and 7) -/

/-- Whether an access reads or writes, with the values being written (R135). -/
inductive AccessKind where
  | blockRead
  | blockWrite (data : Block)
deriving DecidableEq, Repr

/-- The four requests of the channel (R138). -/
inductive Requester where
  | composer
  | engineRead
  | drain
  | clear
deriving DecidableEq, Repr

/-- The record of the one access in flight (R135). -/
structure Access where
  kind : AccessKind
  block : BlockName
  requester : Requester
deriving DecidableEq, Repr

/-- The values of the alternation record (R140). -/
inductive Alternation where
  | engineRead
  | drain
deriving DecidableEq, Repr

/-! ### Composer and timing generator (section 8) -/

/-- An item of the display list (R33). -/
structure DisplayItem where
  slot : SlotNo
  generation : BitVec 8
  layer : Layer
  region : Region
  key : Option Pixel
deriving DecidableEq, Repr

/-- The positions of the timing generator (R144, R146). -/
inductive GeneratorPosition where
  | initial
  | lead
  | visible (y : Nat)
  | trailing (k : Nat)
deriving DecidableEq, Repr

/-- The layer and block column of a block of a line. -/
structure LineBlock where
  layer : Layer
  column : Nat
deriving DecidableEq, Repr

/-- The Composer's block in flight (R144). -/
structure FetchInFlight where
  block : LineBlock
  line : Nat
  dropped : Bool
deriving DecidableEq, Repr

/-- A line buffer: the line it serves, or none, and the blocks received for that line (R150). -/
structure LineBuffer where
  serves : Option Nat
  blocks : List (LineBlock × Block)
deriving DecidableEq, Repr

/-- A line buffer that serves no line and holds nothing. -/
def LineBuffer.empty : LineBuffer := ⟨none, []⟩

/-- The Composer with its timing generator (R144). `sentLine` holds the pixels fixed at the last LINE_DUE, which the
panel output sends over the line period (R147). -/
structure Composer where
  running : Bool
  position : GeneratorPosition
  frameNumber : BitVec 16
  displayList : List DisplayItem
  fetchLine : Option Nat
  fetchList : List LineBlock
  inFlight : Option FetchInFlight
  buffer0 : LineBuffer
  buffer1 : LineBuffer
  underrunReported : Bool
  underruns : BitVec 32
  frames : BitVec 32
  sentLine : List Pixel
deriving DecidableEq, Repr

/-- The Composer at the end of device reset (R144). -/
def Composer.reset : Composer where
  running := false
  position := .initial
  frameNumber := 0
  displayList := []
  fetchLine := none
  fetchList := []
  inFlight := none
  buffer0 := .empty
  buffer1 := .empty
  underrunReported := false
  underruns := 0
  frames := 0
  sentLine := []

/-! ### Surface memory and the whole part -/

/-- Surface memory: the bytes that a block write has stored since power-up, as (byte address, byte) pairs at strictly
rising addresses (R2, R136). An unlisted address reads as no value; the channel then returns what the device holds,
a free value (log entry 3). -/
abbrev Memory := List Host.Cell

/-- The part. -/
structure State where
  /-- The device reset pin is asserted (R16). -/
  deviceReset : Bool
  globalState : GlobalState
  config : ConfigBlock
  commitResult : CommitResult
  /-- The memory size sampled at the end of device reset (R4). -/
  memorySize : MemorySize
  /-- The precedences sampled at the end of device reset, 0 the highest (R4). -/
  precedence : PerPort (Fin 4)
  /-- The position of the clear pass's next block write, while the pass runs (R14). -/
  clearPosition : Option BlockName
  table : Vector Slot 32
  leaseSlots : PerPort LeaseSlot
  /-- The ports whose requests wait, in wait-list order (R53). -/
  waitList : List Port
  /-- The requests that have parked since device reset: the park time of the next one (R38, log entry 11). -/
  parkings : Nat
  ports : PerPort HostPort
  /-- The round-robin pointer (R72). -/
  pointer : Port
  /-- The skip count of each port, 0 to 15 (R72). -/
  skips : PerPort Nat
  engine : Engine
  buffer : Buffer
  /-- The access in flight: none when the channel is FREE (R135). -/
  channel : Option Access
  alternation : Alternation
  composer : Composer
  memory : Memory
  /-- The model's own count of the free values taken so far (log entries 4 and 8). -/
  freeCount : Nat
  /-- The commands that wait, first in, first out. -/
  pending : List Instr
deriving DecidableEq, Repr

/-- The part right after a device reset has ended, with every strap pin low and every port reset pin released (log
entry 2), and with nothing written to surface memory. -/
def State.reset : State where
  deviceReset := false
  globalState := .setup
  config := .default
  commitResult := .none
  memorySize := .mib16
  precedence := .const 0
  clearPosition := none
  table := Vector.replicate 32 Slot.reset
  leaseSlots := .const .reset
  waitList := []
  parkings := 0
  ports := .const .reset
  pointer := .p3
  skips := .const 0
  engine := .reset
  buffer := .reset
  channel := none
  alternation := .drain
  composer := .reset
  memory := []
  freeCount := 0
  pending := []

/-- Why the part stops with a fault. -/
inductive Fault where
  /-- Raised by GRANT_EVENT when the access it would start names a block outside the committed surface, whose bytes the
  channel never reads or writes (R137). No reachable state raises it. Safe: the model stops where the manual gives
  the channel no address. -/
  | outsideSurface (block : BlockName)
deriving DecidableEq, Repr

/-- Why a command has no meaning. -/
inductive Refusal where
  /-- Raised by `exec` alone, for a command of the table that has no meaning yet. Safe: the model stops. -/
  | notModelled (mnemonic : String)
deriving DecidableEq, Repr

end Sys2Proof.Machine
end

