-- ==== Sys2Proof/Machine/Operands.lean ====
section
/-! DEFINITION. Operand forms: the register map with its access types, the fields that a written word carries, and how
the staging registers and the configuration block store and return them (section 12). -/

namespace Sys2Proof.Machine

/-- The bits of `w` from bit `low` on, as many as a field of `n` bits holds (R188). -/
def field (w : Word) (low n : Nat) : BitVec n := w.extractLsb' low n

/-- Bit `i` of `w`. -/
def flag (w : Word) (i : Nat) : Bool := w.getLsbD i

/-- A field's value placed at its bit position in a word that is 0 elsewhere (R188). -/
def place {n : Nat} (v : BitVec n) (low : Nat) : Word := v.setWidth 32 <<< low

/-- A one-bit field placed at its bit position. -/
def placeFlag (b : Bool) (i : Nat) : Word := place (BitVec.ofBool b) i

/-! ### The register map -/

/-- The registers of a port window (R187). -/
inductive Register where
  | cmdHandle
  | cmdRegionXY
  | cmdRegionWH
  | cmdRopMask
  | cmdColour
  | cmdFgBg
  | cmdPattern0
  | cmdPattern1
  | cmdOrigin
  | cmdSrcHandle
  | cmdSrcXY
  | cmdSrcKey
  | submit
  | submitResult
  | leaseLayerRights
  | leaseRegionXY
  | leaseRegionWH
  | leaseVisKey
  | leaseFlags
  | leaseOp
  | leaseResult
  | leaseHandle
  | uploadPush
  | readbackPop
  | noticeWord0
  | noticeWord1
  | portStatus
  | fifoStatus
  | accessError
  | lossCount
  | portInfo
  | control
  | intEnable
  | noticeEnable
  | pixelsWritten
  | pixelsKeyed
  | commandsDone
  | commandsFaulted
  | merges
  | fullForwards
  | underfills
  | voided
  | underruns
  | frames
  | config (field : ConfigField)
  | commit
  | commitResult
  | globalState
deriving DecidableEq, Repr

/-- The access types of R162. -/
inductive AccessType where
  | storage
  | readOnly
  | trigger
  | push
  | pop
  | clearOnRead
deriving DecidableEq, Repr

/-- A row of the register map: offset, register and access type. -/
structure RegisterRow where
  offset : Nat
  register : Register
  type : AccessType
deriving DecidableEq, Repr

/-- The registers that belong to the port, 0x00 to 0x94 (R187). -/
def portRegisters : List RegisterRow := [
  ⟨0x00, .cmdHandle, .storage⟩, ⟨0x04, .cmdRegionXY, .storage⟩, ⟨0x08, .cmdRegionWH, .storage⟩,
  ⟨0x0C, .cmdRopMask, .storage⟩, ⟨0x10, .cmdColour, .storage⟩, ⟨0x14, .cmdFgBg, .storage⟩,
  ⟨0x18, .cmdPattern0, .storage⟩, ⟨0x1C, .cmdPattern1, .storage⟩, ⟨0x20, .cmdOrigin, .storage⟩,
  ⟨0x24, .cmdSrcHandle, .storage⟩, ⟨0x28, .cmdSrcXY, .storage⟩, ⟨0x2C, .cmdSrcKey, .storage⟩,
  ⟨0x30, .submit, .trigger⟩, ⟨0x34, .submitResult, .readOnly⟩,
  ⟨0x38, .leaseLayerRights, .storage⟩, ⟨0x3C, .leaseRegionXY, .storage⟩, ⟨0x40, .leaseRegionWH, .storage⟩,
  ⟨0x44, .leaseVisKey, .storage⟩, ⟨0x48, .leaseFlags, .storage⟩,
  ⟨0x4C, .leaseOp, .trigger⟩, ⟨0x50, .leaseResult, .readOnly⟩, ⟨0x54, .leaseHandle, .readOnly⟩,
  ⟨0x58, .uploadPush, .push⟩, ⟨0x5C, .readbackPop, .pop⟩,
  ⟨0x60, .noticeWord0, .readOnly⟩, ⟨0x64, .noticeWord1, .pop⟩,
  ⟨0x68, .portStatus, .readOnly⟩, ⟨0x6C, .fifoStatus, .readOnly⟩,
  ⟨0x70, .accessError, .clearOnRead⟩, ⟨0x74, .lossCount, .clearOnRead⟩,
  ⟨0x78, .portInfo, .readOnly⟩, ⟨0x7C, .control, .trigger⟩,
  ⟨0x80, .intEnable, .storage⟩, ⟨0x84, .noticeEnable, .storage⟩,
  ⟨0x88, .pixelsWritten, .readOnly⟩, ⟨0x8C, .pixelsKeyed, .readOnly⟩,
  ⟨0x90, .commandsDone, .readOnly⟩, ⟨0x94, .commandsFaulted, .readOnly⟩]

/-- The device counters, 0x98 to 0xAC (R187). -/
def counterRegisters : List RegisterRow := [
  ⟨0x98, .merges, .readOnly⟩, ⟨0x9C, .fullForwards, .readOnly⟩, ⟨0xA0, .underfills, .readOnly⟩,
  ⟨0xA4, .voided, .readOnly⟩, ⟨0xA8, .underruns, .readOnly⟩, ⟨0xAC, .frames, .readOnly⟩]

/-- The configuration block, 0xC0 to 0xFC (R187). -/
def configRegisters : List RegisterRow := [
  ⟨0xC0, .config .width, .storage⟩, ⟨0xC4, .config .height, .storage⟩, ⟨0xC8, .config .hblank, .storage⟩,
  ⟨0xCC, .config .vblank, .storage⟩, ⟨0xD0, .config .background, .storage⟩,
  ⟨0xD4, .config (.quota .p0), .storage⟩, ⟨0xD8, .config (.quota .p1), .storage⟩,
  ⟨0xDC, .config (.quota .p2), .storage⟩, ⟨0xE0, .config (.quota .p3), .storage⟩,
  ⟨0xE4, .config .drainMark, .storage⟩, ⟨0xE8, .config .dataTimeout, .storage⟩,
  ⟨0xEC, .config .starveLimit, .storage⟩, ⟨0xF0, .config .clearOnCommit, .storage⟩,
  ⟨0xF4, .commit, .trigger⟩, ⟨0xF8, .commitResult, .readOnly⟩, ⟨0xFC, .globalState, .readOnly⟩]

/-- The register map, the same in all four windows (R187). -/
def registerMap : List RegisterRow := portRegisters ++ counterRegisters ++ configRegisters

/-- The row of the map at an offset; none where the offset holds no register (R162, R187). -/
def rowAt (offset : BitVec 8) : Option RegisterRow :=
  registerMap.find? (fun row => row.offset == offset.toNat)

/-- The register at an offset, if any. -/
def registerAt (offset : BitVec 8) : Option Register := (rowAt offset).map RegisterRow.register

/-- Whether a word written to the register is a command row of its own, for these bits of the word: a SUBMIT, LEASE_OP,
UPLOAD_PUSH, INT_ENABLE, NOTICE_ENABLE, configuration or commit write, or a CONTROL write with a flag set. -/
def writeHasOwnRow (r : Register) (w : Word) : Bool :=
  match r with
  | .submit | .leaseOp | .uploadPush | .intEnable | .noticeEnable | .config _ | .commit => true
  | .control => flag w 0 || flag w 1
  | _ => false

/-! ### Command staging (R164, section 12.3) -/

/-- A write to a command staging register: each field of the register stores its bits of the word (R188). -/
def storeCommand (r : Register) (w : Word) (c : CommandStaging) : CommandStaging :=
  match r with
  | .cmdHandle => { c with slot := field w 0 6, generation := field w 8 8 }
  | .cmdRegionXY => { c with x := field w 0 12, y := field w 16 12 }
  | .cmdRegionWH => { c with width := field w 0 12, height := field w 16 12 }
  | .cmdRopMask => { c with rop := field w 0 4, planeMask := field w 16 16 }
  | .cmdColour => { c with colour := field w 0 16 }
  | .cmdFgBg => { c with foreground := field w 0 16, background := field w 16 16 }
  | .cmdPattern0 => { c with pattern0 := w }
  | .cmdPattern1 => { c with pattern1 := w }
  | .cmdOrigin => { c with originX := field w 0 4, originY := field w 8 4, transparent := flag w 16 }
  | .cmdSrcHandle => { c with sourceSlot := field w 0 6, sourceGeneration := field w 8 8 }
  | .cmdSrcXY => { c with sourceX := field w 0 12, sourceY := field w 16 12 }
  | .cmdSrcKey => { c with keyValue := field w 0 16, keyPresent := flag w 16 }
  | _ => c

/-- A read of a command staging register: each field at its position and 0 elsewhere (R188); 0 for a register that is
none of them. -/
def readCommand (r : Register) (c : CommandStaging) : Word :=
  match r with
  | .cmdHandle => place c.slot 0 ||| place c.generation 8
  | .cmdRegionXY => place c.x 0 ||| place c.y 16
  | .cmdRegionWH => place c.width 0 ||| place c.height 16
  | .cmdRopMask => place c.rop 0 ||| place c.planeMask 16
  | .cmdColour => place c.colour 0
  | .cmdFgBg => place c.foreground 0 ||| place c.background 16
  | .cmdPattern0 => c.pattern0
  | .cmdPattern1 => c.pattern1
  | .cmdOrigin => place c.originX 0 ||| place c.originY 8 ||| placeFlag c.transparent 16
  | .cmdSrcHandle => place c.sourceSlot 0 ||| place c.sourceGeneration 8
  | .cmdSrcXY => place c.sourceX 0 ||| place c.sourceY 16
  | .cmdSrcKey => place c.keyValue 0 ||| placeFlag c.keyPresent 16
  | _ => 0

/-! ### Lease staging (R166, section 12.4) -/

/-- A write to a lease staging register: each field of the register stores its bits of the word (R188). -/
def storeLease (r : Register) (w : Word) (l : LeaseStaging) : LeaseStaging :=
  match r with
  | .leaseLayerRights =>
    { l with layer := field w 0 3, mayDraw := flag w 8, mayRead := flag w 9, mayShow := flag w 10 }
  | .leaseRegionXY => { l with x := field w 0 12, y := field w 16 12 }
  | .leaseRegionWH => { l with width := field w 0 12, height := field w 16 12 }
  | .leaseVisKey => { l with keyValue := field w 0 16, keyPresent := flag w 16, visible := flag w 24 }
  | .leaseFlags => { l with timeout := field w 0 16, wait := flag w 16, preempt := flag w 17 }
  | _ => l

/-- A read of a lease staging register: each field at its position and 0 elsewhere (R188); 0 for a register that is
none of them. -/
def readLease (r : Register) (l : LeaseStaging) : Word :=
  match r with
  | .leaseLayerRights =>
    place l.layer 0 ||| placeFlag l.mayDraw 8 ||| placeFlag l.mayRead 9 ||| placeFlag l.mayShow 10
  | .leaseRegionXY => place l.x 0 ||| place l.y 16
  | .leaseRegionWH => place l.width 0 ||| place l.height 16
  | .leaseVisKey => place l.keyValue 0 ||| placeFlag l.keyPresent 16 ||| placeFlag l.visible 24
  | .leaseFlags => place l.timeout 0 ||| placeFlag l.wait 16 ||| placeFlag l.preempt 17
  | _ => 0

/-! ### The configuration block (R8, section 12.6) -/

/-- A configuration field stores the low bits of the written word, as many as its width (R8). -/
def storeConfig (f : ConfigField) (w : Word) (c : ConfigBlock) : ConfigBlock :=
  match f with
  | .width => { c with width := field w 0 11 }
  | .height => { c with height := field w 0 11 }
  | .hblank => { c with hblank := field w 0 11 }
  | .vblank => { c with vblank := field w 0 8 }
  | .background => { c with background := field w 0 16 }
  | .quota p => { c with quota := c.quota.set p (field w 0 6) }
  | .drainMark => { c with drainMark := field w 0 7 }
  | .dataTimeout => { c with dataTimeout := field w 0 16 }
  | .starveLimit => { c with starveLimit := field w 0 4 }
  | .clearOnCommit => { c with clearOnCommit := flag w 0 }

/-- A read of a configuration field (R7, R188). -/
def readConfig (f : ConfigField) (c : ConfigBlock) : Word :=
  match f with
  | .width => place c.width 0
  | .height => place c.height 0
  | .hblank => place c.hblank 0
  | .vblank => place c.vblank 0
  | .background => place c.background 0
  | .quota p => place (c.quota.get p) 0
  | .drainMark => place c.drainMark 0
  | .dataTimeout => place c.dataTimeout 0
  | .starveLimit => place c.starveLimit 0
  | .clearOnCommit => placeFlag c.clearOnCommit 0

/-! ### Trigger words -/

/-- What a SUBMIT write carries (R165, section 12.3). -/
structure SubmitWord where
  kind : BitVec 3
  notify : Bool
  tag : BitVec 8
  token : BitVec 16
deriving DecidableEq, Repr

/-- The fields of a word written to SUBMIT. -/
def submitWord (w : Word) : SubmitWord := ⟨field w 0 3, flag w 3, field w 8 8, field w 16 16⟩

/-- What a LEASE_OP write carries (R167, section 12.4). -/
structure LeaseOpWord where
  operation : BitVec 2
  visible : Bool
  handle : Handle
deriving DecidableEq, Repr

/-- The fields of a word written to LEASE_OP: its slot field is five bits wide, so that it always names a slot. -/
def leaseOpWord (w : Word) : LeaseOpWord := ⟨field w 0 2, flag w 4, ⟨(field w 8 5).toFin, field w 16 8⟩⟩

/-- The precedence that the two strap pins of a port give: PRECn_B × 2 + PRECn_A (section 12.8). -/
def precedenceOf (pins : PrecedencePins) : Fin 4 :=
  match pins.b, pins.a with
  | false, false => 0
  | false, true => 1
  | true, false => 2
  | true, true => 3

/-- The memory size that the MSIZE strap gives: 0 is 16 MiB, 1 is 32 MiB (R4, section 12.8). -/
def memorySizeOf (msize : Bool) : MemorySize := if msize then .mib32 else .mib16

/-! ### Command records assembled from the staging registers (R64, R65, R68) -/

/-- A staged handle; none when its slot field is above 31 (R68). -/
def stagedHandle (slot : BitVec 6) (generation : BitVec 8) : Option Handle :=
  if h : slot.toNat < 32 then some ⟨⟨slot.toNat, h⟩, generation⟩ else none

/-- A staged region; none when x or y is above 2047, or width or height is 0 or above 2048 (R68). -/
def stagedRegion (c : CommandStaging) : Option Region :=
  if c.x.toNat ≤ 2047 ∧ c.y.toNat ≤ 2047 ∧ 1 ≤ c.width.toNat ∧ c.width.toNat ≤ 2048 ∧
      1 ≤ c.height.toNat ∧ c.height.toNat ≤ 2048 then
    some ⟨c.x.toNat, c.y.toNat, c.width.toNat, c.height.toNat⟩
  else none

/-- A key held as a value and a present flag (R164, R166). -/
def stagedKey (value : Pixel) (present : Bool) : Option Pixel := if present then some value else none

/-- The drawing kinds as the SUBMIT kind field numbers them. -/
inductive DrawingKind where
  | fill
  | pattern
  | copy
  | upload
  | readback
deriving DecidableEq, Repr

/-- The part of the record that depends on the kind; none when a field of the kind is outside its range (R68). -/
def stagedKind (k : DrawingKind) (c : CommandStaging) : Option DrawKind :=
  match k with
  | .fill => some (.fill c.rop c.planeMask c.colour)
  | .pattern =>
    if c.originX.toNat ≤ 7 ∧ c.originY.toNat ≤ 7 then
      some (.pattern c.rop c.planeMask c.foreground c.background (c.pattern1 ++ c.pattern0)
        c.originX.toNat c.originY.toNat c.transparent)
    else none
  | .copy =>
    match stagedHandle c.sourceSlot c.sourceGeneration with
    | some source =>
      if c.sourceX.toNat ≤ 2047 ∧ c.sourceY.toNat ≤ 2047 then
        some (.copy c.rop c.planeMask source c.sourceX.toNat c.sourceY.toNat (stagedKey c.keyValue c.keyPresent))
      else none
    | none => none
  | .upload => some (.upload c.rop c.planeMask (stagedKey c.keyValue c.keyPresent))
  | .readback => some .readback

/-- The drawing command that a SUBMIT write assembles from the staging registers as they stand; none when a field is
outside its range, which R67 refuses with BAD_FIELD (R64, R68, R165). -/
def stagedCommand (k : DrawingKind) (tag : BitVec 8) (notify : Bool) (c : CommandStaging) : Option DrawCommand :=
  match stagedHandle c.slot c.generation, stagedRegion c, stagedKind k c with
  | some handle, some region, some kind => some ⟨tag, notify, handle, region, kind⟩
  | _, _, _ => none

/-- The request that the lease staging registers hold, for a surface of `w` × `h`; none when its layer, region or rights
are not acceptable, which R42 refuses with BAD_REGION (R40, R42). -/
def stagedRequest (w h : Nat) (l : LeaseStaging) : Option LeaseRequest :=
  if hl : l.layer.toNat < 4 then
    if 1 ≤ l.width.toNat ∧ l.width.toNat ≤ 2048 ∧ 1 ≤ l.height.toNat ∧ l.height.toNat ≤ 2048 ∧
        l.x.toNat + l.width.toNat ≤ w ∧ l.y.toNat + l.height.toNat ≤ h ∧ (l.mayDraw || l.mayRead || l.mayShow) then
      some { layer := ⟨l.layer.toNat, hl⟩,
             region := ⟨l.x.toNat, l.y.toNat, l.width.toNat, l.height.toNat⟩,
             rights := ⟨l.mayDraw, l.mayRead, l.mayShow⟩,
             visible := l.visible,
             key := stagedKey l.keyValue l.keyPresent,
             wait := l.wait, preempt := l.preempt, timeout := l.timeout }
    else none
  else none

end Sys2Proof.Machine
end

