-- ==== Sys2Proof/Machine/Flags.lean ====
section
/-! DEFINITION. Codes, notice words, status registers, the interrupt line and the panel's sync lines: everything the part
computes from its state for a reader, and the value of every register that a host port can read. -/

namespace Sys2Proof.Machine

/-! ### Code encodings (R189, sections 12.3 to 12.7) -/

/-- The commit result codes. -/
def CommitResult.code : CommitResult → BitVec 4
  | .none => 0
  | .ok => 1
  | .badWidth => 2
  | .badHeight => 3
  | .badBlank => 4
  | .badQuota => 5
  | .tooLarge => 6
  | .badMark => 7
  | .badTimeout => 8
  | .badLimit => 9

/-- The submit result codes. -/
def SubmitResult.code : SubmitResult → BitVec 3
  | .none => 0
  | .accepted => 1
  | .notReady => 2
  | .queueFull => 3
  | .badKind => 4
  | .badField => 5

/-- The last-operation codes of LEASE_RESULT. -/
def LeaseOperation.code : LeaseOperation → BitVec 3
  | .none => 0
  | .request => 1
  | .release => 2
  | .setVisible => 3
  | .cancel => 4

/-- The lease result codes. -/
def LeaseResult.code : LeaseResult → BitVec 5
  | .none => 0
  | .notReady => 1
  | .busy => 2
  | .badRegion => 3
  | .noQuota => 4
  | .noSlot => 5
  | .conflict => 6
  | .granted => 7
  | .waiting => 8
  | .timedOut => 9
  | .stale => 10
  | .notOwner => 11
  | .notHeld => 12
  | .released => 13
  | .noRight => 14
  | .visibilitySet => 15
  | .cancelled => 16
  | .nothingWaiting => 17

/-- The fault codes. -/
def FaultCode.code : FaultCode → BitVec 16
  | .staleHandle => 1
  | .notOwner => 2
  | .windowLost => 3
  | .noRight => 4
  | .outOfWindow => 5
  | .dataTimeout => 6
  | .aborted => 7

/-- The access error codes. -/
def AccessError.code : AccessError → BitVec 3
  | .none => 0
  | .locked => 1
  | .fifoFull => 2
  | .fifoEmpty => 3
  | .badOffset => 4

/-- The global state codes. -/
def GlobalState.code : GlobalState → BitVec 2
  | .setup => 0
  | .clearing => 1
  | .run => 2

/-- The notice kind codes. -/
def Notice.kindCode : Notice → Nat
  | .leaseGranted _ => 1
  | .leaseTimedOut => 2
  | .windowRevoked _ _ => 4
  | .windowFreed _ => 5
  | .commandDone _ => 6
  | .commandFault _ _ _ => 7
  | .queueAborted _ => 8
  | .fenceDone _ => 9
  | .frameStarted _ => 10
  | .underrun _ _ => 11
  | .surfaceReady => 12
  | .configRejected _ => 13

/-! ### Notice words (R176, R179, section 12.5) -/

/-- A handle as field A carries it: the slot in bits 4:0, the generation in bits 15:8. -/
def handleField (h : Handle) : BitVec 16 :=
  BitVec.ofNat 16 h.slot.val ||| (h.generation.setWidth 16 <<< 8)

/-- Field A of a notice (R176). -/
def Notice.fieldA : Notice → BitVec 16
  | .leaseGranted h => handleField h
  | .leaseTimedOut => 0
  | .windowRevoked h _ => handleField h
  | .windowFreed h => handleField h
  | .commandDone tag => tag.setWidth 16
  | .commandFault tag _ _ => tag.setWidth 16
  | .queueAborted _ => 0
  | .fenceDone token => token
  | .frameStarted n => n
  | .underrun n _ => n
  | .surfaceReady => 0
  | .configRejected _ => 0

/-- The first item of field B of a notice (R176). -/
def Notice.fieldB : Notice → BitVec 16
  | .leaseGranted _ => 0
  | .leaseTimedOut => 0
  | .windowRevoked _ q => BitVec.ofNat 16 q.number
  | .windowFreed _ => 0
  | .commandDone _ => 0
  | .commandFault _ code _ => code.code
  | .queueAborted n => BitVec.ofNat 16 n
  | .fenceDone _ => 0
  | .frameStarted _ => 0
  | .underrun _ line => BitVec.ofNat 16 line
  | .surfaceReady => 0
  | .configRejected code => code.code.setWidth 16

/-- The second item of field B: the spans completed, for COMMAND_FAULT only (section 12.5). -/
def Notice.spans : Notice → BitVec 16
  | .commandFault _ _ n => BitVec.ofNat 16 n
  | _ => 0

/-- NOTICE_WORD0 for the queue `q`: kind and field A of the head notice, 0 when the queue is empty (R179). -/
def noticeWord0 (q : List Notice) : Word :=
  match q with
  | [] => 0
  | n :: _ => place (BitVec.ofNat 4 n.kindCode) 0 ||| place n.fieldA 16

/-- NOTICE_WORD1 for the queue `q`: field B of the head notice, 0 when the queue is empty (R179). -/
def noticeWord1 (q : List Notice) : Word :=
  match q with
  | [] => 0
  | n :: _ => place n.fieldB 0 ||| place n.spans 16

/-- Whether the mask of NOTICE_ENABLE enables the notice's kind (R177, R181). -/
def noticeEnabled (mask : BitVec 14) (n : Notice) : Bool := mask.getLsbD n.kindCode

/-- What NOTICE_ENABLE stores of a written word: bits 13:1 without bit 3 (section 12.5). -/
def noticeMaskOf (w : Word) : BitVec 14 := field w 0 14 &&& 0x3FF6

/-! ### Levels, counts and lines of a port -/

/-- The capacity of a command queue (R70). -/
def queueCapacity : Nat := 8

/-- The capacity of an upload or readback FIFO (section 9.5). -/
def fifoCapacity : Nat := 32

/-- The capacity of a notice queue (R177). -/
def noticeCapacity : Nat := 16

/-- The capacity of the Pending-Write Buffer (R112). -/
def bufferCapacity : Nat := 64

/-- The markers a port holds at most (R129). -/
def markerCapacity : Nat := 4

/-- The queue free count of PORT_STATUS (R71). -/
def HostPort.freeCount (hp : HostPort) : Nat := queueCapacity - hp.queue.length

/-- The interrupt line of a port: asserted while its notice queue holds a notice and INT_ENABLE is on (R173). -/
def State.interruptLine (s : State) (p : Port) : Bool :=
  (s.ports.get p).intEnable && !(s.ports.get p).notices.isEmpty

/-- The committed surface width W (R1). -/
def State.surfaceWidth (s : State) : Nat := s.config.width.toNat

/-- The committed surface height H (R1). -/
def State.surfaceHeight (s : State) : Nat := s.config.height.toNat

/-- The pixel periods of a line period, W + HBLANK (R146). -/
def State.linePeriod (s : State) : Nat := s.config.width.toNat + s.config.hblank.toNat

/-- The panel's pixel outputs in the `n`-th pixel period of a line period (R147). -/
def State.panelPixel (s : State) (n : Nat) : Pixel :=
  match s.composer.running, s.composer.position with
  | true, .visible _ => if n < s.surfaceWidth then s.composer.sentLine.getD n 0 else 0
  | _, _ => 0

/-- Whether line sync is active in the `n`-th pixel period of a line period: during the HBLANK periods that follow the
first W (R147). -/
def State.lineSync (s : State) (n : Nat) : Bool :=
  match s.composer.running, s.composer.position with
  | true, .initial => false
  | true, _ => decide (s.surfaceWidth ≤ n ∧ n < s.linePeriod)
  | false, _ => false

/-- Whether frame sync is active (R147). -/
def State.frameSync (s : State) : Bool :=
  match s.composer.running, s.composer.position with
  | true, .lead => true
  | true, .trailing _ => true
  | _, _ => false

/-! ### Register reads (R171, R187, R188) -/

/-- PORT_STATUS. -/
def portStatusWord (s : State) (p : Port) : Word :=
  place (BitVec.ofNat 4 (s.ports.get p).freeCount) 0 ||| placeFlag (s.leaseSlots.get p).waiting.isSome 4 |||
    place s.globalState.code 8 ||| place s.composer.frameNumber 16

/-- FIFO_STATUS. -/
def fifoStatusWord (s : State) (p : Port) : Word :=
  place (BitVec.ofNat 6 (s.ports.get p).upload.length) 0 |||
    place (BitVec.ofNat 6 (s.ports.get p).readback.length) 8 |||
    place (BitVec.ofNat 5 (s.ports.get p).notices.length) 16

/-- LEASE_RESULT. -/
def leaseResultWord (s : State) (p : Port) : Word :=
  place (s.leaseSlots.get p).record.operation.code 0 ||| place (s.leaseSlots.get p).record.result.code 8

/-- LEASE_HANDLE: all 0 when the result carries no handle. -/
def leaseHandleWord (s : State) (p : Port) : Word :=
  match (s.leaseSlots.get p).record.handle with
  | some h => place (BitVec.ofNat 5 h.slot.val) 0 ||| place h.generation 8 ||| placeFlag true 16
  | none => 0

/-- PORT_INFO. -/
def portInfoWord (s : State) (p : Port) : Word :=
  place (BitVec.ofNat 2 p.number) 0 ||| place (BitVec.ofFin (s.precedence.get p) : BitVec 2) 8

/-- The global state register. -/
def globalStateWord (s : State) : Word :=
  place s.globalState.code 0 ||| placeFlag (s.memorySize == .mib32) 8

/-- The value of a register of port `p`'s window, as a word read accepted now returns it. The reads of READBACK_POP,
NOTICE_WORD1, ACCESS_ERROR and LOSS_COUNT also act; their commands say how. Trigger and push registers read 0 (R162). -/
def readRegister (s : State) (p : Port) (r : Register) : Word :=
  let hp := s.ports.get p
  match r with
  | .cmdHandle | .cmdRegionXY | .cmdRegionWH | .cmdRopMask | .cmdColour | .cmdFgBg | .cmdPattern0 | .cmdPattern1
  | .cmdOrigin | .cmdSrcHandle | .cmdSrcXY | .cmdSrcKey => readCommand r hp.command
  | .submit => 0
  | .submitResult => place hp.submitResult.code 0
  | .leaseLayerRights | .leaseRegionXY | .leaseRegionWH | .leaseVisKey | .leaseFlags => readLease r hp.lease
  | .leaseOp => 0
  | .leaseResult => leaseResultWord s p
  | .leaseHandle => leaseHandleWord s p
  | .uploadPush => 0
  | .readbackPop => hp.readback.headD 0
  | .noticeWord0 => noticeWord0 hp.notices
  | .noticeWord1 => noticeWord1 hp.notices
  | .portStatus => portStatusWord s p
  | .fifoStatus => fifoStatusWord s p
  | .accessError => place hp.accessError.code 0
  | .lossCount => place (BitVec.ofNat 8 hp.lossCount) 0
  | .portInfo => portInfoWord s p
  | .control => 0
  | .intEnable => placeFlag hp.intEnable 0
  | .noticeEnable => place hp.noticeEnable 0
  | .pixelsWritten => hp.pixelsWritten
  | .pixelsKeyed => hp.pixelsKeyed
  | .commandsDone => hp.commandsDone
  | .commandsFaulted => hp.commandsFaulted
  | .merges => s.buffer.merges
  | .fullForwards => s.buffer.fullForwards
  | .underfills => s.buffer.underfills
  | .voided => s.buffer.voided
  | .underruns => s.composer.underruns
  | .frames => s.composer.frames
  | .config f => readConfig f s.config
  | .commit => 0
  | .commitResult => place s.commitResult.code 0
  | .globalState => globalStateWord s

/-- Whether an access of port `p` is ignored because the device reset pin or the port's own reset pin is asserted
(R16, R163). -/
def State.ignoresAccess (s : State) (p : Port) : Bool :=
  s.deviceReset || (s.ports.get p).resetPin == .asserted

/-- What a word read at an offset of port `p`'s window returns: 0 while accesses are ignored and at an offset that holds
no register (R162, R163, R184). -/
def readValue (s : State) (p : Port) (offset : BitVec 8) : Word :=
  if s.ignoresAccess p then 0
  else match registerAt offset with
    | some r => readRegister s p r
    | none => 0

end Sys2Proof.Machine
end

