-- ==== Sys2Proof/Machine/Ops.lean ====
section
/-! DEFINITION. The named operations over memory, ports and records that every meaning is built from: reading and
writing blocks of surface memory, updating one block of the state, posting a notice, and the three ways a command is
taken (a write access, a read access, an event of the part's own). -/

namespace Sys2Proof.Machine

/-! ### Surface memory (R2, R136) -/

/-- The canonical form: addresses strictly rising. -/
def Memory.wf : Memory → Bool
  | [] => true
  | [_] => true
  | a :: b :: rest => decide (a.1 < b.1) && Memory.wf (b :: rest)

/-- The byte listed at an address; none where no block write has stored one. -/
def Memory.read (m : Memory) (a : Nat) : Option Byte := List.lookup a m

/-- The byte the device returns at an address: the one stored there, else what the device holds (R136). -/
def Memory.load (m : Memory) (a : Nat) : Byte := (m.read a).getD (Config.powerUpByte a)

/-- Bytes at consecutive addresses from `a` on. -/
def cellsFrom (a : Nat) : List Byte → Memory
  | [] => []
  | b :: rest => (a, b) :: cellsFrom (a + 1) rest

/-- Store bytes at consecutive addresses from `a` on. -/
def Memory.store (m : Memory) (a : Nat) (bytes : List Byte) : Memory :=
  m.filter (fun c => c.1 < a) ++ cellsFrom a bytes ++ m.filter (fun c => a + bytes.length ≤ c.1)

/-- The two bytes of a pixel. The manual names no byte order within a pixel; the low byte lies lower (log entry 5). -/
def pixelBytes (v : Pixel) : List Byte := [v.extractLsb' 0 8, v.extractLsb' 8 8]

/-- The pixel that two bytes make, the lower address first (log entry 5). -/
def pixelOf (low high : Byte) : Pixel := high ++ low

/-- The bytes of a block, pixel 0 first (R2). -/
def blockBytes (b : Block) : List Byte := b.toList.flatMap pixelBytes

/-- The byte address of a block on a surface of `w` × `h` pixels (R2). -/
def blockAddress (w h : Nat) (b : BlockName) : Nat :=
  2 * w * h * b.layer.val + 2 * w * b.row + 32 * b.column

/-- The address of a block under the committed geometry (R1, R2). -/
def State.addressOf (s : State) (b : BlockName) : Nat := blockAddress s.surfaceWidth s.surfaceHeight b

/-- The sixteen values that memory holds from byte address `a` on (R136). -/
def Memory.readBlock (m : Memory) (a : Nat) : Block :=
  Vector.ofFn fun i => pixelOf (m.load (a + 2 * i.val)) (m.load (a + 2 * i.val + 1))

/-- Store a block's sixteen values from byte address `a` on (R136). -/
def Memory.writeBlock (m : Memory) (a : Nat) (b : Block) : Memory := m.store a (blockBytes b)

/-- The block of surface memory with the given name (R136). -/
def State.readBlock (s : State) (b : BlockName) : Block := s.memory.readBlock (s.addressOf b)

/-- Surface memory with a block stored (R136). -/
def State.writeBlock (s : State) (b : BlockName) (v : Block) : State :=
  { s with memory := s.memory.writeBlock (s.addressOf b) v }

/-- Whether a block lies inside the committed surface (R137). -/
def State.inSurface (s : State) (b : BlockName) : Bool :=
  decide (b.row < s.surfaceHeight) && decide (b.column < s.surfaceWidth / 16)

/-- The block of all-zero pixels that the clear pass writes (R14). -/
def zeroBlock : Block := Vector.replicate 16 0

/-! ### Updates of one block of the state -/

/-- The state with the Host Port Unit of `p` changed by `f`. -/
def State.onPort (s : State) (p : Port) (f : HostPort → HostPort) : State :=
  { s with ports := s.ports.set p (f (s.ports.get p)) }

/-- The state with the lease slot of `p` changed by `f`. -/
def State.onLease (s : State) (p : Port) (f : LeaseSlot → LeaseSlot) : State :=
  { s with leaseSlots := s.leaseSlots.set p (f (s.leaseSlots.get p)) }

/-- The slot of the window table with the given number. -/
def State.slot (s : State) (i : SlotNo) : Slot := s.table[i]

/-- The state with one slot of the window table changed by `f`. -/
def State.onSlot (s : State) (i : SlotNo) (f : Slot → Slot) : State :=
  { s with table := s.table.set i.val (f s.table[i]) i.isLt }

/-- The state with the Pending-Write Buffer changed by `f`. -/
def State.onBuffer (s : State) (f : Buffer → Buffer) : State := { s with buffer := f s.buffer }

/-- The state with the Raster Engine changed by `f`. -/
def State.onEngine (s : State) (f : Engine → Engine) : State := { s with engine := f s.engine }

/-- The state with the Composer changed by `f`. -/
def State.onComposer (s : State) (f : Composer → Composer) : State := { s with composer := f s.composer }

/-- The state with the engine's current command changed by `f`, if it holds one. -/
def State.onCurrent (s : State) (f : ActiveCommand → ActiveCommand) : State :=
  s.onEngine fun e => { e with current := e.current.map f }

/-! ### Notices (R177, R178) -/

/-- Offer a notice to a notice queue: turned away when its kind is disabled, queued when there is room, else lost and
counted in the loss count, which stays at 255 (R177, R178). -/
def HostPort.offer (n : Notice) (hp : HostPort) : HostPort :=
  if noticeEnabled hp.noticeEnable n then
    if hp.notices.length < noticeCapacity then { hp with notices := hp.notices ++ [n] }
    else { hp with lossCount := min 255 (hp.lossCount + 1) }
  else hp

/-- Post a notice to port `p` (R177). -/
def State.post (s : State) (p : Port) (n : Notice) : State := s.onPort p (HostPort.offer n)

/-- Post a notice to each of the four ports. -/
def State.postAll (s : State) (n : Notice) : State := Port.all.foldl (fun t p => t.post p n) s

/-- Post several notices to port `p` in the order given. -/
def State.postList (s : State) (p : Port) (ns : List Notice) : State := ns.foldl (fun t n => t.post p n) s

/-! ### Accesses and events -/

/-- Set the access-error status of port `p` (R170). -/
def State.setAccessError (s : State) (p : Port) (e : AccessError) : State :=
  s.onPort p fun hp => { hp with accessError := e }

/-- A write access of port `p`: ignored while a reset pin is asserted, else its event (R16, R161, R163). -/
def writeAccess (s : State) (p : Port) (event : State → State) : State :=
  if s.ignoresAccess p then s else event s

/-- An acting read of port `p`: its event, and the value it returns, 0 while a reset pin is asserted (R161, R163). -/
def readAccess (s : State) (p : Port) (value : Word) (event : State → State) : State :=
  if s.ignoresAccess p then s.onPort p fun hp => { hp with readData := 0 }
  else (event s).onPort p fun hp => { hp with readData := value }

/-- An event of the part's own: none is taken while the device reset pin is asserted (R16, R177). -/
def ownEvent (s : State) (event : State → State) : State := if s.deviceReset then s else event s

/-! ### The timebase (R57, R103) -/

/-- One tick of a running timer. -/
def tickTimer (t : Option Nat) : Option Nat := t.map (· - 1)

/-- One tick of the 1 µs timebase for a lease slot (R57). -/
def LeaseSlot.tick (l : LeaseSlot) : LeaseSlot :=
  { l with waiting := l.waiting.map fun w => { w with remaining := tickTimer w.remaining } }

/-- One tick of the 1 µs timebase: every remaining time and the data timer fall by one (R57, R103). -/
def State.tickTimers (s : State) : State :=
  { s with
    leaseSlots := ⟨s.leaseSlots.p0.tick, s.leaseSlots.p1.tick, s.leaseSlots.p2.tick, s.leaseSlots.p3.tick⟩
    engine := { s.engine with
      current := s.engine.current.map fun a => { a with dataTimer := tickTimer a.dataTimer } } }

/-- The remaining time of port `p`'s waiting request, if one runs. -/
def State.remainingTime (s : State) (p : Port) : Option Nat :=
  (s.leaseSlots.get p).waiting.bind WaitingRequest.remaining

/-- The engine's data timer, if it runs. -/
def State.dataTimer (s : State) : Option Nat := s.engine.current.bind ActiveCommand.dataTimer

/-- The ports whose remaining time has reached 0, in port order. -/
def State.dueLeases (s : State) : List Instr :=
  (Port.all.filter fun p => s.remainingTime p == some 0).map Instr.leaseTimeout

/-- The timeout events that the timers at 0 raise (R57, R103). Where both kinds are due, which is first is a free value
(log entry 8). -/
def State.dueTimeouts (s : State) : List Instr :=
  if s.dataTimer == some 0 then
    match s.dueLeases with
    | [] => [.dataTimeout]
    | leases =>
      if Config.dataTimeoutFirst s.freeCount then .dataTimeout :: leases else leases ++ [.dataTimeout]
  else s.dueLeases

/-- One tick of the timebase, with the timeout events it raises put into the queue; it counts a free value where it takes
one (log entry 8). -/
def State.tick (s : State) : State :=
  let t := s.tickTimers
  { t with
    freeCount := if t.dataTimer == some 0 && !t.dueLeases.isEmpty then t.freeCount + 1 else t.freeCount
    pending := t.dueTimeouts }

end Sys2Proof.Machine
end

