-- ==== Sys2Proof/Machine/Windows.lean ====
section
/-! DEFINITION. The shared operations of the Lease Manager and of an entry's departure: conflicts and preemption, freeing,
voiding and revocation, markers, grants, the wait list and its evaluation, and the display list (sections 2, 3, 6). -/

namespace Sys2Proof.Machine

/-! ### Reading the window table -/

/-- The slot numbers, lowest first. -/
def allSlots : List SlotNo := List.finRange 32

/-- The window of a slot that is not FREE (R19). -/
def Slot.window (sl : Slot) : Option Window :=
  match sl.state with
  | .free => none
  | .held w => some w
  | .draining w _ => some w
  | .revoked w _ => some w

/-- The window of a HELD or DRAINING slot: one that counts against its owner's quota and conflicts (R21). -/
def Slot.live (sl : Slot) : Option Window :=
  match sl.state with
  | .held w => some w
  | .draining w _ => some w
  | _ => none

/-- The window of a HELD slot. -/
def Slot.heldWindow (sl : Slot) : Option Window :=
  match sl.state with
  | .held w => some w
  | _ => none

/-- Whether a slot is FREE. -/
def Slot.isFree (sl : Slot) : Bool := sl.state == .free

/-- Whether a slot is DRAINING. -/
def Slot.isDraining (sl : Slot) : Bool :=
  match sl.state with
  | .draining _ _ => true
  | _ => false

/-- Whether the slot a handle names holds the handle's generation and is HELD (R113, R95). -/
def State.holds (s : State) (h : Handle) : Bool :=
  (s.slot h.slot).generation == h.generation && (s.slot h.slot).heldWindow.isSome

/-- A port's count of HELD and DRAINING windows (R31). -/
def State.windowCount (s : State) (p : Port) : Nat :=
  allSlots.countP fun i => (s.slot i).live.any fun w => w.owner == p

/-- The committed quota of a port. -/
def State.quotaOf (s : State) (p : Port) : Nat := (s.config.quota.get p).toNat

/-- Whether two regions of one layer share a pixel (R32). -/
def regionsOverlap (a b : Region) : Bool :=
  decide (a.x < b.x + b.width) && decide (b.x < a.x + a.width) &&
    decide (a.y < b.y + b.height) && decide (b.y < a.y + a.height)

/-- Whether a region covers a pixel. -/
def regionCovers (r : Region) (x y : Nat) : Bool :=
  decide (r.x ≤ x) && decide (x < r.x + r.width) && decide (r.y ≤ y) && decide (y < r.y + r.height)

/-- Whether a region lies wholly inside another one (R85). -/
def regionInside (a b : Region) : Bool :=
  decide (b.x ≤ a.x) && decide (b.y ≤ a.y) && decide (a.x + a.width ≤ b.x + b.width) &&
    decide (a.y + a.height ≤ b.y + b.height)

/-- Whether port `p`'s request conflicts with the window of a slot (R45). -/
def Slot.conflicts (sl : Slot) (p : Port) (r : LeaseRequest) : Bool :=
  sl.live.any fun w => w.owner != p && w.layer == r.layer && regionsOverlap w.region r.region

/-- The conflict set of port `p`'s request, in slot order (R45, R47). -/
def State.conflictSet (s : State) (p : Port) (r : LeaseRequest) : List SlotNo :=
  allSlots.filter fun i => (s.slot i).conflicts p r

/-- Whether preemption can clear a conflict set: PREEMPT is set and every owner's precedence number is strictly greater
than the requester's (R46). -/
def State.clearable (s : State) (p : Port) (r : LeaseRequest) (set : List SlotNo) : Bool :=
  r.preempt && set.all fun i =>
    (s.slot i).live.any fun w => decide (s.precedence.get p < s.precedence.get w.owner)

/-- The lowest-numbered FREE slot (R48). -/
def State.lowestFree (s : State) : Option SlotNo := allSlots.find? fun i => (s.slot i).isFree

/-! ### Entries of the age order -/

/-- The entry at a place of the age order, if it is one. -/
def AgeItem.entry? : AgeItem → Option Entry
  | .entry e => some e
  | .marker _ => none

/-- The marker at a place of the age order, if it is one. -/
def AgeItem.marker? : AgeItem → Option Marker
  | .entry _ => none
  | .marker m => some m

/-- The place with its entry changed by `f`. -/
def AgeItem.onEntry (f : Entry → Entry) : AgeItem → AgeItem
  | .entry e => .entry (f e)
  | .marker m => .marker m

/-- The buffer's entries, oldest first. -/
def Buffer.entries (b : Buffer) : List Entry := b.items.filterMap AgeItem.entry?

/-- The buffer's markers, oldest first. -/
def Buffer.markers (b : Buffer) : List Marker := b.items.filterMap AgeItem.marker?

/-- The occupancy: the entries present in any state (R110). -/
def Buffer.occupancy (b : Buffer) : Nat := b.entries.length

/-- The drain head: the oldest entry that is not VOID (R110). -/
def Buffer.drainHead (b : Buffer) : Option Entry := b.entries.find? fun e => e.state != .voided

/-- The markers of one port. -/
def Buffer.markersOf (b : Buffer) (p : Port) : List Marker := b.markers.filter fun m => m.port == p

/-- The oldest entry that satisfies `q` removed from the age order. -/
def removeOldest (q : Entry → Bool) : List AgeItem → List AgeItem
  | [] => []
  | .entry e :: rest => if q e then rest else .entry e :: removeOldest q rest
  | .marker m :: rest => .marker m :: removeOldest q rest

/-- The oldest entry that satisfies `q` changed by `f`. -/
def changeOldest (q : Entry → Bool) (f : Entry → Entry) : List AgeItem → List AgeItem
  | [] => []
  | .entry e :: rest => if q e then .entry (f e) :: rest else .entry e :: changeOldest q f rest
  | .marker m :: rest => .marker m :: changeOldest q f rest

/-- The youngest entry that satisfies `q` changed by `f`. -/
def changeYoungest (q : Entry → Bool) (f : Entry → Entry) (items : List AgeItem) : List AgeItem :=
  (changeOldest q f items.reverse).reverse

/-- The youngest entry for a block (R112). -/
def Buffer.youngest (b : Buffer) (n : BlockName) : Option Entry :=
  b.entries.reverse.find? fun e => e.block == n

/-! ### Markers (R129, R130) -/

/-- The tokens of the markers of port `p` that no older entry of the port precedes, in placement order, and the age order
without those markers (R130). -/
def takeMarkers (p : Port) : List AgeItem → List (BitVec 16) × List AgeItem
  | [] => ([], [])
  | .entry e :: rest =>
    if e.port = p then ([], .entry e :: rest)
    else ((takeMarkers p rest).1, .entry e :: (takeMarkers p rest).2)
  | .marker m :: rest =>
    if m.port = p then (m.token :: (takeMarkers p rest).1, (takeMarkers p rest).2)
    else ((takeMarkers p rest).1, .marker m :: (takeMarkers p rest).2)

/-- Complete the markers of port `p` that now qualify, each with its FENCE_DONE (R130). -/
def State.completeMarkers (s : State) (p : Port) : State :=
  (s.onBuffer fun b => { b with items := (takeMarkers p b.items).2 }).postList p
    ((takeMarkers p s.buffer.items).1.map Notice.fenceDone)

/-- The signal of a departure to an engine in WAIT_BUFFER, which then raises its refused post again (R116, R125). -/
def State.signalDeparture (s : State) : State :=
  s.onEngine fun e => if e.state = .waitBuffer then { e with retryPost := true } else e

/-! ### Freeing (R29) -/

/-- Whether the slot is DRAINING or REVOKED with outstanding 0 and frame_passed yes (R29). -/
def Slot.mayFree (sl : Slot) : Bool :=
  match sl.state with
  | .draining _ passed => passed && sl.outstanding == 0
  | .revoked _ passed => passed && sl.outstanding == 0
  | _ => false

/-- The freeing check on one slot, with WINDOW_FREED to the former owner of a DRAINING window (R29). -/
def State.freeingCheck (s : State) (i : SlotNo) : State :=
  match (s.slot i).mayFree, (s.slot i).state with
  | true, .draining w _ =>
    (s.onSlot i fun sl => { sl with state := .free }).post w.owner (.windowFreed ⟨i, (s.slot i).generation⟩)
  | true, _ => s.onSlot i fun sl => { sl with state := .free }
  | false, _ => s

/-! ### Voiding and revocation (R24, R127) -/

/-- Whether the entry carries the handle and leaves at its revocation: OPEN or CLOSED (R127). -/
def Entry.leavesAtRevocation (h : Handle) (e : Entry) : Bool :=
  e.handle == h && (e.state == .opened || e.state == .closed)

/-- A FILLING entry of the handle becomes VOID (R127). -/
def Entry.voidFilling (h : Handle) (e : Entry) : Entry :=
  if e.handle = h ∧ e.state = .filling then { e with state := .voided } else e

/-- The age order after the entries of a handle are voided (R127). -/
def voidItems (h : Handle) (items : List AgeItem) : List AgeItem :=
  (items.filter fun it => !(it.entry?.any (Entry.leavesAtRevocation h))).map (AgeItem.onEntry (Entry.voidFilling h))

/-- Void the entries of a handle whose window is `owner`'s: OPEN and CLOSED ones leave, with the effects of a departure,
and a FILLING one becomes VOID (R127, R125). -/
def State.voidEntries (s : State) (h : Handle) (owner : Port) : State :=
  let n := s.buffer.entries.countP (Entry.leavesAtRevocation h)
  let t := (s.onBuffer fun b => { b with items := voidItems h b.items, voided := b.voided + BitVec.ofNat 32 n }).onSlot
    h.slot fun sl => { sl with outstanding := sl.outstanding - n }
  if n = 0 then t else t.signalDeparture.completeMarkers owner

/-- Revoke window `w` of slot `i`, leaving frame_passed at `passed`: void its entries, make the freeing check and, for a
preemption by port `q`, post WINDOW_REVOKED to its owner (R24, R25). -/
def State.revokeWindow (s : State) (i : SlotNo) (w : Window) (passed : Bool) (preemptor : Option Port) : State :=
  let h : Handle := ⟨i, (s.slot i).generation⟩
  let t := ((s.onSlot i fun sl => { sl with state := .revoked w passed }).voidEntries h w.owner).freeingCheck i
  match preemptor with
  | some q => t.post w.owner (.windowRevoked h q)
  | none => t

/-- Revoke the window of a HELD or DRAINING slot: frame_passed becomes no from HELD and is kept from DRAINING (R24). -/
def State.revoke (s : State) (i : SlotNo) (preemptor : Option Port) : State :=
  match (s.slot i).state with
  | .held w => s.revokeWindow i w false preemptor
  | .draining w passed => s.revokeWindow i w passed preemptor
  | _ => s

/-! ### Grants (R22, R41 steps 5 to 7, R47, R48) -/

/-- What steps 5 to 7 of R41 decide. -/
inductive GrantDecision where
  | noSlot
  | conflict
  | granted (revoked : List SlotNo)
deriving DecidableEq, Repr

/-- Steps 5 to 7 of R41 for port `p`'s request, against the table as it stands (R41, R55). -/
def State.decideGrant (s : State) (p : Port) (r : LeaseRequest) : GrantDecision :=
  if s.lowestFree.isNone then .noSlot
  else if (s.conflictSet p r).isEmpty then .granted []
  else if s.clearable p r (s.conflictSet p r) then .granted (s.conflictSet p r)
  else .conflict

/-- The slot after a grant: HELD by port `p` with the request's values, its generation advanced (R20, R22). -/
def Slot.grant (p : Port) (r : LeaseRequest) (sl : Slot) : Slot where
  state := .held ⟨p, r.layer, r.region, r.rights, r.visible, r.key⟩
  generation := sl.generation + 1
  outstanding := 0

/-- Revoke the windows of a conflict set in slot order, then make the lowest-numbered FREE slot HELD; with the handle
of the grant (R47, R48). -/
def State.performGrant (s : State) (p : Port) (r : LeaseRequest) (revoked : List SlotNo) : State × Option Handle :=
  let t := revoked.foldl (fun t i => t.revoke i (some p)) s
  match t.lowestFree with
  | some i => (t.onSlot i (Slot.grant p r), some ⟨i, (t.slot i).generation + 1⟩)
  | none => (t, none)

/-- Replace a port's last-result record (R38). -/
def State.record (s : State) (p : Port) (op : LeaseOperation) (result : LeaseResult) (h : Option Handle) : State :=
  s.onLease p fun l => { l with record := ⟨op, result, h⟩ }

/-- Take a port's waiting request out of the wait list: its lease slot becomes IDLE (R53). -/
def State.unwait (s : State) (p : Port) : State :=
  { s with waitList := s.waitList.erase p }.onLease p fun l => { l with waiting := none }

/-! ### The wait list (R53 to R56) -/

/-- The place at which a port's request joins the list: behind every smaller or equal precedence number and ahead of every
greater one (R53). -/
def joinWaitList (precedence : PerPort (Fin 4)) (p : Port) : List Port → List Port
  | [] => [p]
  | q :: rest =>
    if precedence.get q ≤ precedence.get p then q :: joinWaitList precedence p rest else p :: q :: rest

/-- Park a port's request, with its remaining time and its park time (R38, R43, R44). -/
def State.park (s : State) (p : Port) (r : LeaseRequest) : State :=
  let remaining := if r.timeout = 0 then none else some (r.timeout.toNat * 1000)
  ({ s with waitList := joinWaitList s.precedence p s.waitList, parkings := s.parkings + 1 }.onLease p fun l =>
    { l with waiting := some ⟨r, remaining, s.parkings⟩ }).record p .request .waiting none

/-- Evaluate the waiting request of port `p`, and say whether it revoked a window (R55, R56). -/
def State.evaluateOne (s : State) (p : Port) : State × Bool :=
  match (s.leaseSlots.get p).waiting with
  | none => (s, false)
  | some w =>
    match s.decideGrant p w.request with
    | .noSlot => (s, false)
    | .conflict => (s, false)
    | .granted revoked =>
      match s.performGrant p w.request revoked with
      | (t, some h) =>
        (((t.unwait p).record p .request .granted (some h)).post p (.leaseGranted h), !revoked.isEmpty)
      | (t, none) => (t, !revoked.isEmpty)

/-- One pass over the wait list in list order, and whether it revoked a window (R54). -/
def State.evaluationPass (s : State) : State × Bool :=
  s.waitList.foldl (fun acc p => ((acc.1.evaluateOne p).1, acc.2 || (acc.1.evaluateOne p).2)) (s, false)

/-- Passes until one revokes nothing, at most `n` (R54). -/
def State.evaluationPasses : Nat → State → State
  | 0, s => s
  | n + 1, s => if s.evaluationPass.2 then State.evaluationPasses n s.evaluationPass.1 else s.evaluationPass.1

/-- Evaluate the wait list. A pass that revokes also grants, so that one pass more than the requests waiting always
suffices (R54). -/
def State.evaluateWaitList (s : State) : State := State.evaluationPasses (s.waitList.length + 1) s

/-! ### Departure of an entry at a completion (R125, R28) -/

/-- The slot after a leave message. -/
def Slot.leave (sl : Slot) : Slot := { sl with outstanding := sl.outstanding - 1 }

/-- The effects of the departure of an entry at a completion, once it is gone from the age order: the leave message with
the freeing check, the signal to the engine, the markers of its port, and the evaluation of the wait list if a slot
became FREE (R125, R28, R54). -/
def State.departed (s : State) (e : Entry) : State :=
  let t := s.onSlot e.handle.slot Slot.leave
  let u := ((t.freeingCheck e.handle.slot).signalDeparture).completeMarkers e.port
  if (t.slot e.handle.slot).mayFree then u.evaluateWaitList else u

/-! ### The display list (R33) -/

/-- The display-list item of a slot on a layer, if it is HELD, shown and on the layer (R33). -/
def State.displayItem (s : State) (layer : Layer) (i : SlotNo) : Option DisplayItem :=
  match (s.slot i).heldWindow with
  | some w =>
    if w.rights.mayShow && w.visible && w.layer == layer then
      some ⟨i, (s.slot i).generation, w.layer, w.region, w.key⟩
    else none
  | none => none

/-- The layers from L3 down to L0. -/
def layersDown : List Layer := [3, 2, 1, 0]

/-- The display list: by layer from L3 down to L0, and within a layer by slot number (R33). -/
def State.buildDisplayList (s : State) : List DisplayItem :=
  layersDown.flatMap fun layer => allSlots.filterMap (s.displayItem layer)

/-- A DRAINING or REVOKED slot's frame_passed set to yes (R34). -/
def Slot.passFrame (sl : Slot) : Slot :=
  match sl.state with
  | .draining w _ => { sl with state := .draining w true }
  | .revoked w _ => { sl with state := .revoked w true }
  | _ => sl

/-- The Lease Manager's work at a frame start but for the list it hands over: frame_passed, freeing and the one
evaluation of the wait list (R34 steps 2 to 4). DESIGN CHOICE (unsafe): where one frame start frees several slots, they are
freed in slot order, lowest first, and their WINDOW_FREED are posted in that order, which no rule states (log entry 27). -/
def State.passFrame (s : State) : State :=
  let t := { s with table := Vector.ofFn fun i => s.table[i].passFrame }
  let u := allSlots.foldl State.freeingCheck t
  if allSlots.any fun i => (t.slot i).mayFree then u.evaluateWaitList else u

end Sys2Proof.Machine
end

