-- ==== Sys2Proof/Machine/Pixels.lean ====
section
/-! DEFINITION. The arithmetic of the Raster Engine: clipping, spans and their order, source values, skipping, raster
operations and plane masks (sections 5.3 and 5.4). -/

namespace Sys2Proof.Machine

/-! ### Raster operations (R92, R93) -/

/-- One plane of a raster operation: the bit of the rop number at position 2 × s + d (R92). -/
def ropBit (rop : BitVec 4) (s d : Bool) : Bool := rop.getLsbD (2 * s.toNat + d.toNat)

/-- The planes `v` when a truth-table bit is 1, no plane when it is 0. -/
def planesWhen (b : Bool) (v : Pixel) : Pixel := if b then v else 0

/-- A raster operation on all sixteen planes: each of the four rows of its truth table on the planes it governs (R92). -/
def applyRop (rop : BitVec 4) (s d : Pixel) : Pixel :=
  planesWhen (rop.getLsbD 0) (~~~s &&& ~~~d) ||| planesWhen (rop.getLsbD 1) (~~~s &&& d) |||
    planesWhen (rop.getLsbD 2) (s &&& ~~~d) ||| planesWhen (rop.getLsbD 3) (s &&& d)

/-- The value written for a pixel that is not skipped: R on the planes of the plane mask, D on the others (R93). -/
def writtenValue (rop : BitVec 4) (planeMask s d : Pixel) : Pixel :=
  (applyRop rop s d &&& planeMask) ||| (d &&& ~~~planeMask)

/-- Whether the table of R92 marks the rop "Uses D". -/
def ropUsesD (rop : BitVec 4) : Bool := !(rop == 0 || rop == 3 || rop == 12 || rop == 15)

/-- The rop and plane mask of a writing kind. -/
def DrawKind.ropMask : DrawKind → Option (BitVec 4 × Pixel)
  | .fill rop mask _ => some (rop, mask)
  | .pattern rop mask _ _ _ _ _ _ => some (rop, mask)
  | .copy rop mask _ _ _ _ => some (rop, mask)
  | .upload rop mask _ => some (rop, mask)
  | .readback => none

/-- Whether the kind is READBACK, which writes nothing (R101). -/
def DrawKind.isReadback : DrawKind → Bool
  | .readback => true
  | _ => false

/-- Whether the kind is UPLOAD. -/
def DrawKind.isUpload : DrawKind → Bool
  | .upload _ _ _ => true
  | _ => false

/-- Whether the engine needs D: the rop uses D or the plane mask is not 0xFFFF (R93). -/
def DrawKind.needsD (k : DrawKind) : Bool :=
  match k.ropMask with
  | some (rop, mask) => ropUsesD rop || mask != 0xFFFF
  | none => false

/-! ### Clipping (R86, R87) -/

/-- The offsets along one axis at which a run of `length` pixels from `start` lies in a window's run: first offset, and one
past the last. -/
def clipAxis (start length windowStart windowLength : Nat) : Nat × Nat :=
  (windowStart - start, min length (windowStart + windowLength - start))

/-- The offsets common to two runs. -/
def meetAxis (a b : Nat × Nat) : Nat × Nat := (max a.1 b.1, min a.2 b.2)

/-- The clipped rectangle of the offsets of both axes. -/
def clipOf (h v : Nat × Nat) : Clip := ⟨h.1, v.1, h.2 - h.1, v.2 - v.1⟩

/-- The clipped rectangle of a FILL or PATTERN: the intersection of its region with its window (R86). -/
def clipToWindow (r w : Region) : Clip :=
  clipOf (clipAxis r.x r.width w.x w.width) (clipAxis r.y r.height w.y w.height)

/-- The clipped rectangle of a COPY: the offsets at which the destination pixel lies in the destination window and the
source pixel in the source window (R87). -/
def clipCopy (r w : Region) (sourceX sourceY : Nat) (sw : Region) : Clip :=
  clipOf
    (meetAxis (clipAxis r.x r.width w.x w.width) (clipAxis sourceX r.width sw.x sw.width))
    (meetAxis (clipAxis r.y r.height w.y w.height) (clipAxis sourceY r.height sw.y sw.height))

/-- The clipped rectangle equal to a whole region (R87). -/
def clipWhole (r : Region) : Clip := ⟨0, 0, r.width, r.height⟩

/-- Whether a clipped rectangle is empty, so that the command has no spans (R86). -/
def Clip.isEmpty (c : Clip) : Bool := c.width == 0 || c.height == 0

/-- The rectangle that a clipped rectangle covers when its offsets count from `x`, `y`. -/
def Clip.at (c : Clip) (x y : Nat) : Region := ⟨x + c.dx, y + c.dy, c.width, c.height⟩

/-- The row and block order of a COPY whose windows lie on the layers `layer` and `sourceLayer` (R89). -/
def copyOrder (layer sourceLayer : Layer) (r : Region) (sourceX sourceY : Nat) (c : Clip) : RowOrder × BlockOrder :=
  if layer = sourceLayer ∧ regionsOverlap (c.at r.x r.y) (c.at sourceX sourceY) = true then
    if r.y > sourceY then (.upward, .rightward)
    else if r.y = sourceY ∧ r.x > sourceX then (.downward, .leftward)
    else (.downward, .rightward)
  else (.downward, .rightward)

/-! ### Spans (R88) -/

/-- The clipped rectangle in layer coordinates. -/
def ActiveCommand.rectangle (a : ActiveCommand) : Region := a.clip.at a.command.region.x a.command.region.y

/-- The leftmost pixel of the clipped rectangle. -/
def ActiveCommand.left (a : ActiveCommand) : Nat := a.rectangle.x

/-- The rightmost pixel of a clipped rectangle that is not empty. -/
def ActiveCommand.right (a : ActiveCommand) : Nat := a.rectangle.x + a.rectangle.width - 1

/-- The top row of the clipped rectangle. -/
def ActiveCommand.top (a : ActiveCommand) : Nat := a.rectangle.y

/-- The bottom row of a clipped rectangle that is not empty. -/
def ActiveCommand.bottom (a : ActiveCommand) : Nat := a.rectangle.y + a.rectangle.height - 1

/-- The block column of the first span of each row. -/
def ActiveCommand.firstColumn (a : ActiveCommand) : Nat :=
  match a.blocks with
  | .rightward => a.left / 16
  | .leftward => a.right / 16

/-- The position of the command's first span (R88, R89). -/
def ActiveCommand.firstPosition (a : ActiveCommand) : SpanPosition :=
  match a.rows with
  | .downward => ⟨a.top, a.firstColumn⟩
  | .upward => ⟨a.bottom, a.firstColumn⟩

/-- The first span of the row after `row`; none after the last row (R88, R89). -/
def ActiveCommand.nextRow (a : ActiveCommand) (row : Nat) : Option SpanPosition :=
  match a.rows with
  | .downward => if row < a.bottom then some ⟨row + 1, a.firstColumn⟩ else none
  | .upward => if a.top < row then some ⟨row - 1, a.firstColumn⟩ else none

/-- The span after the one at `q`; none after the last (R88, R89). -/
def ActiveCommand.nextPosition (a : ActiveCommand) (q : SpanPosition) : Option SpanPosition :=
  match a.blocks with
  | .rightward => if q.column < a.right / 16 then some ⟨q.row, q.column + 1⟩ else a.nextRow q.row
  | .leftward => if a.left / 16 < q.column then some ⟨q.row, q.column - 1⟩ else a.nextRow q.row

/-- The first pixel of the span at `q` (R88). -/
def ActiveCommand.spanFrom (a : ActiveCommand) (q : SpanPosition) : Nat := max a.left (16 * q.column)

/-- The last pixel of the span at `q` (R88). -/
def ActiveCommand.spanTo (a : ActiveCommand) (q : SpanPosition) : Nat := min a.right (16 * q.column + 15)

/-- The number of pixels of the span at `q`. -/
def ActiveCommand.spanLength (a : ActiveCommand) (q : SpanPosition) : Nat := a.spanTo q + 1 - a.spanFrom q

/-- The x coordinates of the span at `q`, from left to right. -/
def ActiveCommand.spanXs (a : ActiveCommand) (q : SpanPosition) : List Nat :=
  List.range' (a.spanFrom q) (a.spanLength q)

/-- The destination block of the span at `q`, or the block read by a READBACK (R88). -/
def ActiveCommand.spanBlock (a : ActiveCommand) (q : SpanPosition) : BlockName := ⟨a.layer, q.row, q.column⟩

/-! ### Source values (R90) -/

/-- Pixel `i` of a block; 0 for a position that no block has. -/
def blockPixel (b : Block) (i : Nat) : Pixel := if h : i < 16 then b[i] else 0

/-- The pattern cell at row `r` and column `c`: bit 8 × r + c of the pattern words (R90, section 12.3). -/
def patternCell (cells : BitVec 64) (r c : Nat) : Bool := cells.getLsbD (8 * r + c)

/-- The source x of a destination pixel of a COPY (R87). -/
def ActiveCommand.sourceXOf (a : ActiveCommand) (sourceX x : Nat) : Nat := sourceX + (x - a.command.region.x)

/-- The source blocks of the span at `q`, lower block column first: one, or two where the source pixels cross a block
boundary; none for a kind that reads no source (R94). -/
def ActiveCommand.sourceBlockNames (a : ActiveCommand) (q : SpanPosition) : List BlockName :=
  match a.command.kind with
  | .copy _ _ _ sourceX sourceY _ =>
    let row := sourceY + (q.row - a.command.region.y)
    let first := a.sourceXOf sourceX (a.spanFrom q) / 16
    let last := a.sourceXOf sourceX (a.spanTo q) / 16
    (List.range' first (last + 1 - first)).map fun c => ⟨a.sourceLayer, row, c⟩
  | _ => []

/-- The cell of a PATTERN that falls on the pixel at `x`, `row` (R90). -/
def ActiveCommand.cellAt (a : ActiveCommand) (cells : BitVec 64) (originX originY row x : Nat) : Bool :=
  patternCell cells ((row - a.command.region.y + originY) % 8) ((x - a.command.region.x + originX) % 8)

/-- The source value S of the pixel at `x` of the span at `q` (R90). -/
def ActiveCommand.sourceValue (a : ActiveCommand) (q : SpanPosition) (x : Nat) : Pixel :=
  match a.command.kind with
  | .fill _ _ colour => colour
  | .pattern _ _ foreground background cells originX originY _ =>
    if a.cellAt cells originX originY q.row x then foreground else background
  | .copy _ _ _ sourceX _ _ =>
    let first := a.sourceXOf sourceX (a.spanFrom q) / 16
    let sx := a.sourceXOf sourceX x
    blockPixel (a.work.sourceBlocks.getD (sx / 16 - first) zeroBlock) (sx % 16)
  | .upload _ _ _ => a.work.gathered.getD (x - a.spanFrom q) 0
  | .readback => 0

/-- Whether the pixel at `x` of the span at `q` is skipped because its S equals the source key (R91, R97). -/
def ActiveCommand.keyedOut (a : ActiveCommand) (q : SpanPosition) (x : Nat) : Bool :=
  match a.command.kind with
  | .copy _ _ _ _ _ key => key == some (a.sourceValue q x)
  | .upload _ _ key => key == some (a.sourceValue q x)
  | _ => false

/-- Whether the pixel at `x` of the span at `q` is skipped (R91). -/
def ActiveCommand.skipped (a : ActiveCommand) (q : SpanPosition) (x : Nat) : Bool :=
  match a.command.kind with
  | .pattern _ _ _ _ cells originX originY transparent =>
    transparent && !a.cellAt cells originX originY q.row x
  | _ => a.keyedOut q x

/-- Whether every pixel of the span at `q` is skipped (R91). -/
def ActiveCommand.allSkipped (a : ActiveCommand) (q : SpanPosition) : Bool := (a.spanXs q).all (a.skipped q)

/-- The pixels of the span at `q` skipped because they equalled the source key (R97). -/
def ActiveCommand.keyedCount (a : ActiveCommand) (q : SpanPosition) : Nat := (a.spanXs q).countP (a.keyedOut q)

/-- Whether the source values of the span at `q` are all gathered (R94 step 1). -/
def ActiveCommand.sourceReady (a : ActiveCommand) (q : SpanPosition) : Bool :=
  match a.command.kind with
  | .fill _ _ _ => true
  | .pattern _ _ _ _ _ _ _ _ => true
  | .copy _ _ _ _ _ _ => decide ((a.sourceBlockNames q).length ≤ a.work.sourceBlocks.length)
  | .upload _ _ _ => decide (a.spanLength q ≤ a.work.gathered.length)
  | .readback => false

/-- Whether the span at `q` is ready to be posted: its source gathered, a pixel of it not skipped, and D delivered where
it is needed (R94 step 4). -/
def ActiveCommand.postReady (a : ActiveCommand) (q : SpanPosition) : Bool :=
  a.sourceReady q && !a.allSkipped q && (!a.command.kind.needsD || a.work.destBlock.isSome)

/-- The mask of the span at `q`: the positions of its pixels that are not skipped (R94). -/
def ActiveCommand.spanMask (a : ActiveCommand) (q : SpanPosition) : PixelMask :=
  Vector.ofFn fun i =>
    decide (a.spanFrom q ≤ 16 * q.column + i.val) && decide (16 * q.column + i.val ≤ a.spanTo q) &&
      !a.skipped q (16 * q.column + i.val)

/-- The values of the span at `q`: for each position the value that R92 and R93 compute (R94). -/
def ActiveCommand.spanValues (a : ActiveCommand) (q : SpanPosition) : Block :=
  Vector.ofFn fun i =>
    match a.command.kind.ropMask with
    | some (rop, mask) =>
      writtenValue rop mask (a.sourceValue q (16 * q.column + i.val)) (blockPixel (a.work.destBlock.getD zeroBlock) i.val)
    | none => 0

/-- The number of positions in a mask. -/
def maskCount (m : PixelMask) : Nat := m.toList.countP id

/-- Whether a mask holds all sixteen positions. -/
def maskFull (m : PixelMask) : Bool := m.toList.all id

end Sys2Proof.Machine
end

