-- ==== Sys2Proof/Machine/Buffer.lean ====
section
/-! DEFINITION. The Pending-Write Buffer's own operations: posting and merging, forwarded reads, the drain request, drain
begin and the completions (section 6). -/

namespace Sys2Proof.Machine

/-! ### Posting (R113 to R116) -/

/-- What a span post carries (section 6.2). -/
structure SpanPost where
  block : BlockName
  mask : PixelMask
  values : Block
  handle : Handle
deriving DecidableEq, Repr

/-- The outcomes of a span post (R96, R113). -/
inductive PostOutcome where
  | lost
  | merged
  | full
  | allocated
deriving DecidableEq, Repr

/-- The outcome of a span post: LOST unless its window is HELD under its generation; a merge when the youngest entry for
its block is OPEN under the same handle; FULL with 64 entries present; else an allocation (R113). -/
def State.postOutcome (s : State) (o : SpanPost) : PostOutcome :=
  if s.holds o.handle then
    if (s.buffer.youngest o.block).any fun e => e.state == .opened && e.handle == o.handle then .merged
    else if bufferCapacity ≤ s.buffer.occupancy then .full
    else .allocated
  else .lost

/-- An entry with a post's pixels laid over its own (R114). -/
def Entry.merge (o : SpanPost) (e : Entry) : Entry :=
  { e with
    mask := Vector.ofFn fun i => e.mask[i] || o.mask[i]
    data := Vector.ofFn fun i => if o.mask[i] then o.values[i] else e.data[i] }

/-- Merge a post into the youngest entry for its block (R114). -/
def State.mergePost (s : State) (o : SpanPost) : State :=
  s.onBuffer fun b =>
    { b with items := changeYoungest (fun e => e.block == o.block) (Entry.merge o) b.items, merges := b.merges + 1 }

/-- An OPEN entry becomes CLOSED (R115). -/
def Entry.close (e : Entry) : Entry := if e.state = .opened then { e with state := .closed } else e

/-- Allocate an entry for a post under a window of port `owner`: the youngest previous entry for the block is closed if it
was OPEN, and the window's outstanding count rises by one (R115, R27). -/
def State.allocatePost (s : State) (o : SpanPost) (owner : Port) : State :=
  (s.onBuffer fun b =>
    { b with items := changeYoungest (fun e => e.block == o.block) Entry.close b.items ++
        [.entry ⟨o.block, o.mask, o.values, o.handle, owner, .opened⟩] }).onSlot
    o.handle.slot fun sl => { sl with outstanding := sl.outstanding + 1 }

/-- The owner of the window a handle names, as its entries record it (R110). -/
def State.ownerOf (s : State) (h : Handle) (default : Port) : Port :=
  match (s.slot h.slot).window with
  | some w => w.owner
  | none => default

/-! ### Forwarded reads (R118, R119) -/

/-- The entries for a block that a forwarded read counts: those that are not VOID, oldest first (R118). -/
def Buffer.readable (b : Buffer) (n : BlockName) : List Entry :=
  b.entries.filter fun e => e.block == n && e.state != .voided

/-- Whether the masks of the readable entries cover the whole block (R118). -/
def Buffer.covers (b : Buffer) (n : BlockName) : Bool :=
  (List.finRange 16).all fun i => (b.readable n).any fun e => e.mask[i]

/-- A block with an entry's pixels laid over it. -/
def layEntry (base : Block) (e : Entry) : Block :=
  Vector.ofFn fun i => if e.mask[i] then e.data[i] else base[i]

/-- A block with the readable entries laid over it, oldest first (R118, R119). -/
def Buffer.overlay (b : Buffer) (n : BlockName) (base : Block) : Block := (b.readable n).foldl layEntry base

/-! ### The drain (R121 to R124) -/

/-- Whether any slot of the window table is DRAINING (R121). -/
def State.anyDraining (s : State) : Bool := allSlots.any fun i => (s.slot i).isDraining

/-- Whether the drain request stands (R121). -/
def State.drainStands (s : State) : Bool :=
  match s.buffer.drainHead with
  | some e =>
    (e.state == .opened || e.state == .closed) &&
      (decide (s.config.drainMark.toNat ≤ s.buffer.occupancy) || e.state == .closed || !s.buffer.markers.isEmpty ||
        s.anyDraining || s.engine.current.isNone)
  | none => false

/-- Drain begin on an entry: WRITING with a full mask, FILLING with a partial one (R122). -/
def Entry.drainBegin (e : Entry) : Entry :=
  if maskFull e.mask then { e with state := .writing } else { e with state := .filling }

/-- The access that drain begin issues for an entry (R122). -/
def Entry.drainAccess (e : Entry) : Access :=
  if maskFull e.mask then ⟨.blockWrite e.data, e.block, .drain⟩ else ⟨.blockRead, e.block, .drain⟩

/-- Drain begin on the drain head, with UNDERFILLS counted where it issues an underfill read (R122). -/
def Buffer.drainBegin (b : Buffer) (head : Entry) : Buffer :=
  { b with
    items := changeOldest (fun e => e.state != .voided) Entry.drainBegin b.items
    underfills := if maskFull head.mask then b.underfills else b.underfills + 1 }

/-- A FILLING entry after its underfill read: the pixels outside its mask from memory, its mask full, CLOSED (R123). -/
def Entry.underfilled (memory : Block) (e : Entry) : Entry :=
  { e with
    data := Vector.ofFn fun i => if e.mask[i] then e.data[i] else memory[i]
    mask := Vector.replicate 16 true
    state := .closed }

/-- Whether an underfill read is in flight for the entry: it is FILLING or VOID (R111). -/
def Entry.awaitsUnderfill (e : Entry) : Bool := e.state == .filling || e.state == .voided

/-- The effects of the completion of an underfill read that returned `memory` (R123, R128). -/
def State.completeUnderfill (s : State) (memory : Block) : State :=
  match s.buffer.entries.find? Entry.awaitsUnderfill with
  | some e =>
    if e.state = .voided then
      (s.onBuffer fun b =>
        { b with items := removeOldest Entry.awaitsUnderfill b.items, voided := b.voided + 1 }).departed e
    else
      s.onBuffer fun b => { b with items := changeOldest Entry.awaitsUnderfill (Entry.underfilled memory) b.items }
  | none => s

/-- Whether the entry's block write is in flight (R111). -/
def Entry.isWriting (e : Entry) : Bool := e.state == .writing

/-- The effects at the buffer of the completion of a block write: the WRITING entry leaves (R124, R125). -/
def State.completeBlockWrite (s : State) : State :=
  match s.buffer.entries.find? Entry.isWriting with
  | some e => (s.onBuffer fun b => { b with items := removeOldest Entry.isWriting b.items }).departed e
  | none => s

end Sys2Proof.Machine
end

