-- ==== Sys2Proof/Machine/Engine.lean ====
section
/-! DEFINITION. The Raster Engine and the Command Arbiter's shared operations: candidates and the pick, start checks, the
reads and streams of a span, and the ways a command ends (sections 4.4 and 5). -/

namespace Sys2Proof.Machine

/-! ### The Command Arbiter (R72 to R74) -/

/-- The drawing command at the head of a port's queue, if there is one there (R72). -/
def HostPort.headDraw (hp : HostPort) : Option DrawCommand :=
  match hp.queue with
  | .draw c :: _ => some c
  | _ => none

/-- The FENCE token at the head of a port's queue, if a FENCE is there (R76). -/
def HostPort.headFence (hp : HostPort) : Option (BitVec 16) :=
  match hp.queue with
  | .fence token :: _ => some token
  | _ => none

/-- Whether a port is a candidate: the head of its queue is a drawing command (R72). -/
def State.isCandidate (s : State) (p : Port) : Bool := (s.ports.get p).headDraw.isSome

/-- Round-robin order: from the port after the one the pointer names, wrapping, the named port last (R73). -/
def roundRobin : Port → List Port
  | .p0 => [.p1, .p2, .p3, .p0]
  | .p1 => [.p2, .p3, .p0, .p1]
  | .p2 => [.p3, .p0, .p1, .p2]
  | .p3 => [.p0, .p1, .p2, .p3]

/-- The candidates in round-robin order. -/
def State.candidates (s : State) : List Port := (roundRobin s.pointer).filter s.isCandidate

/-- Whether a port's skip count has reached STARVE_LIMIT (R73). -/
def State.starving (s : State) (p : Port) : Bool := decide (s.config.starveLimit.toNat ≤ s.skips.get p)

/-- The candidate that the arbiter picks: the first starving one in round-robin order, else the first of those with the
smallest precedence number (R73). -/
def State.pick (s : State) : Option Port :=
  match s.candidates.filter s.starving with
  | p :: _ => some p
  | [] => s.candidates.find? fun p => s.candidates.all fun q => decide (s.precedence.get p ≤ s.precedence.get q)

/-- The skip counts after the pick of port `p`: 0 for it, one more for every other candidate, at most 15 (R74). -/
def State.skipsAfter (s : State) (p : Port) : PerPort Nat :=
  let skip (q : Port) : Nat :=
    if q = p then 0 else if s.isCandidate q then min 15 (s.skips.get q + 1) else s.skips.get q
  ⟨skip .p0, skip .p1, skip .p2, skip .p3⟩

/-! ### Ends of a command (R104 to R106, R108) -/

/-- Whether every span of the command is finished and no readback word is left to push, so that its end event is due
(R104). -/
def ActiveCommand.finished (a : ActiveCommand) : Bool := a.position.isNone && a.readbackCarry.isNone

/-- The command marked to end by an ABORT of its port, with whether its end event was due already; a second ABORT changes
nothing (R78, R79, R106). -/
def ActiveCommand.mark (a : ActiveCommand) : ActiveCommand :=
  if a.endMark then a else { a with endMark := true, endDue := a.finished }

/-- Whether the command may end DONE: its end event is due, and was due already when an ABORT marked it, if one did
(R104, R79, R106). -/
def ActiveCommand.mayEndDone (a : ActiveCommand) : Bool := a.finished && (!a.endMark || a.endDue)

/-- The engine once its command has ended: IDLE, or WAIT_READ with no command while a read is outstanding (R83). -/
def Engine.ended (e : Engine) : Engine :=
  { e with state := if e.outstandingRead then .waitRead else .idle, current := none, retryPost := false }

/-- A command of port `p` ends DONE (R104). -/
def State.endDone (s : State) (p : Port) (c : DrawCommand) : State :=
  let t := if c.notify then s.post p (.commandDone c.tag) else s
  (t.onPort p fun hp => { hp with commandsDone := hp.commandsDone + 1 }).onEngine Engine.ended

/-- A command of port `p` ends FAULT with a code and its spans completed (R105). -/
def State.endFault (s : State) (p : Port) (c : DrawCommand) (code : FaultCode) (spans : Nat) : State :=
  ((s.post p (.commandFault c.tag code spans)).onPort p fun hp =>
    { hp with commandsFaulted := hp.commandsFaulted + 1 }).onEngine Engine.ended

/-- The engine's current command ends FAULT with a code (R105). -/
def State.faultCurrent (s : State) (a : ActiveCommand) (code : FaultCode) : State :=
  s.endFault a.port a.command code a.spansCompleted

/-! ### Start checks (R84, R85) -/

/-- The four start checks on a handle, in order: generation, owner, state, right (R84). -/
def State.checkHandle (s : State) (p : Port) (h : Handle) (right : Rights → Bool) : Except FaultCode Window :=
  if (s.slot h.slot).generation != h.generation then .error .staleHandle
  else match (s.slot h.slot).state with
    | .free => .error .notOwner
    | .held w => if w.owner != p then .error .notOwner else if right w.rights then .ok w else .error .noRight
    | .draining w _ => if w.owner != p then .error .notOwner else .error .windowLost
    | .revoked w _ => if w.owner != p then .error .notOwner else .error .windowLost

/-- The right that a command needs in its window: READ for a READBACK, DRAW for every other kind (R84). -/
def DrawKind.right (k : DrawKind) (r : Rights) : Bool := if k.isReadback then r.mayRead else r.mayDraw

/-- The work of a span that begins: an UPLOAD first takes its carry (R98). -/
def ActiveCommand.beginSpan (a : ActiveCommand) : ActiveCommand :=
  if a.command.kind.isUpload && a.position.isSome then
    { a with work := { SpanWork.empty with gathered := a.uploadCarry.toList }, uploadCarry := none }
  else { a with work := SpanWork.empty }

/-- The command as the engine takes it up in RUN, at its first span (R84, R86, R88). -/
def activate (p : Port) (c : DrawCommand) (layer sourceLayer : Layer) (clip : Clip) (order : RowOrder × BlockOrder) :
    ActiveCommand :=
  let a : ActiveCommand :=
    { port := p, command := c, layer := layer, sourceLayer := sourceLayer, clip := clip, rows := order.1,
      blocks := order.2, position := none, work := .empty, uploadCarry := none, readbackCarry := none,
      dataTimer := none, endMark := false, endDue := false, spansCompleted := 0 }
  if clip.isEmpty then a else { a with position := some a.firstPosition }

/-- The start checks of a command of port `p`, and the command they let start (R84 to R89). -/
def State.startChecks (s : State) (p : Port) (c : DrawCommand) : Except FaultCode ActiveCommand :=
  match s.checkHandle p c.handle c.kind.right with
  | .error code => .error code
  | .ok w =>
    match c.kind with
    | .fill _ _ _ => .ok (activate p c w.layer w.layer (clipToWindow c.region w.region) (.downward, .rightward))
    | .pattern _ _ _ _ _ _ _ _ =>
      .ok (activate p c w.layer w.layer (clipToWindow c.region w.region) (.downward, .rightward))
    | .copy _ _ source sourceX sourceY _ =>
      match s.checkHandle p source Rights.mayRead with
      | .error code => .error code
      | .ok sw =>
        let clip := clipCopy c.region w.region sourceX sourceY sw.region
        .ok (activate p c w.layer sw.layer clip (copyOrder w.layer sw.layer c.region sourceX sourceY clip))
    | .upload _ _ _ =>
      if regionInside c.region w.region then
        .ok (activate p c w.layer w.layer (clipWhole c.region) (.downward, .rightward))
      else .error .outOfWindow
    | .readback =>
      if regionInside c.region w.region then
        .ok (activate p c w.layer w.layer (clipWhole c.region) (.downward, .rightward))
      else .error .outOfWindow

/-- The engine takes a command of port `p` in the choice event: FAULT when a start check fails, DONE when it has no spans,
else RUN (R84 to R86). -/
def State.startCommand (s : State) (p : Port) (c : DrawCommand) : State :=
  match s.startChecks p c with
  | .error code => s.endFault p c code 0
  | .ok a =>
    if a.clip.isEmpty then s.endDone p c
    else s.onEngine fun e => { e with state := .run, current := some a.beginSpan, retryPost := false }

/-! ### Spans finished (R82, R97) -/

/-- The command with the span at `q` finished and the next one begun (R82, R88). -/
def ActiveCommand.finishSpan (a : ActiveCommand) (q : SpanPosition) : ActiveCommand :=
  { a with position := a.nextPosition q, spansCompleted := min 65535 (a.spansCompleted + 1) }.beginSpan

/-- Finish the span at `q` of a writing kind that posted `written` pixels, with the per-port counters (R97). -/
def State.finishWriting (s : State) (a : ActiveCommand) (q : SpanPosition) (written : Nat) : State :=
  (s.onPort a.port fun hp =>
    { hp with
      pixelsWritten := hp.pixelsWritten + BitVec.ofNat 32 written
      pixelsKeyed := hp.pixelsKeyed + BitVec.ofNat 32 (a.keyedCount q) }).onEngine fun e =>
    { e with state := .run, current := some (a.finishSpan q), retryPost := false }

/-! ### Forwarded reads of the engine (R94, R95, R101) -/

/-- The next forwarded read of a span: its block, and the handle that is checked before it is raised, if one is. -/
structure NextRead where
  checked : Option Handle
  block : BlockName
deriving DecidableEq, Repr

/-- The read of the destination block of the span at `q`, where it is still to be made (R93, R94 step 3). -/
def ActiveCommand.destRead (a : ActiveCommand) (q : SpanPosition) : Option NextRead :=
  if a.sourceReady q && !a.allSkipped q && a.command.kind.needsD && a.work.destBlock.isNone then
    some ⟨none, a.spanBlock q⟩
  else none

/-- The next forwarded read of the span at `q`: a COPY's source blocks, the destination block where D is needed and a pixel
is not skipped, or the block of a READBACK (R94, R95, R101). -/
def ActiveCommand.nextRead (a : ActiveCommand) (q : SpanPosition) : Option NextRead :=
  match a.command.kind with
  | .readback => if a.work.stream.isEmpty then some ⟨some a.command.handle, a.spanBlock q⟩ else none
  | .copy _ _ source _ _ _ =>
    match (a.sourceBlockNames q)[a.work.sourceBlocks.length]? with
    | some b => some ⟨some source, b⟩
    | none => a.destRead q
  | _ => a.destRead q
/-- A READBACK after the pixels of its span are read, or a word of it pushed: when fewer than two pixels wait, the one left
becomes the carry and the span at `q` is finished (R82, R101). -/
def ActiveCommand.settle (a : ActiveCommand) (q : SpanPosition) : ActiveCommand :=
  match a.readbackCarry, a.work.stream with
  | none, [v] => { a with readbackCarry := some v }.finishSpan q
  | _, [] => a.finishSpan q
  | _, _ => a

/-- The command after a block is delivered to its span at `q` (R94, R101). -/
def ActiveCommand.takeBlock (a : ActiveCommand) (q : SpanPosition) (b : Block) : ActiveCommand :=
  match a.command.kind with
  | .readback =>
    { a with work := { a.work with stream := (a.spanXs q).map fun x => blockPixel b (x - 16 * q.column) } }.settle q
  | .copy _ _ _ _ _ _ =>
    if a.work.sourceBlocks.length < (a.sourceBlockNames q).length then
      { a with work := { a.work with sourceBlocks := a.work.sourceBlocks ++ [b] } }
    else { a with work := { a.work with destBlock := some b } }
  | _ => { a with work := { a.work with destBlock := some b } }

/-- A block is delivered to the engine: to the span of its command in RUN, or discarded when it holds no command, which
makes it IDLE (R94, R119, R83). -/
def Engine.deliver (b : Block) (e : Engine) : Engine :=
  match e.current with
  | none => { e with state := .idle, outstandingRead := false }
  | some a =>
    { e with
      state := .run
      outstandingRead := false
      current := some (match a.position with
        | some q => a.takeBlock q b
        | none => a) }

/-- A forwarded read of a block that the engine raises: answered at once from the entries when they cover the block, else
recorded as an engine read, for which the engine waits (R118, R119). -/
def State.raiseRead (s : State) (n : BlockName) : State :=
  if s.buffer.covers n then
    (s.onBuffer fun b => { b with fullForwards := b.fullForwards + 1 }).onEngine
      (Engine.deliver (s.buffer.overlay n zeroBlock))
  else
    (s.onBuffer fun b => { b with engineRead := some ⟨n, false⟩ }).onEngine fun e =>
      { e with state := .waitRead, outstandingRead := true }

/-! ### Streams (R98, R99, R101, R102) -/

/-- The committed DATA_TIMEOUT, at which the data timer starts (R103). -/
def State.dataTimeout (s : State) : Nat := s.config.dataTimeout.toNat

/-- The pixels of an upload word, the first in the low half (R98). -/
def uploadPixels (w : Word) : Pixel × Pixel := (w.extractLsb' 0 16, w.extractLsb' 16 16)

/-- A readback word of two pixels, the first in the low half (R101). -/
def readbackWord (first second : Pixel) : Word := second ++ first

/-- The command after a popped word at the span at `q`: its pixels join the span, and one beyond the span's need becomes
the carry (R98). -/
def ActiveCommand.takeWord (a : ActiveCommand) (q : SpanPosition) (w : Word) : ActiveCommand :=
  if a.work.gathered.length + 2 ≤ a.spanLength q then
    { a with work := { a.work with gathered := a.work.gathered ++ [(uploadPixels w).1, (uploadPixels w).2] } }
  else
    { a with
      work := { a.work with gathered := a.work.gathered ++ [(uploadPixels w).1] }
      uploadCarry := some (uploadPixels w).2 }

/-- The word that a READBACK has to push next, and the command once it is pushed (R101, R102). -/
def ActiveCommand.nextWord (a : ActiveCommand) : Option (Word × ActiveCommand) :=
  match a.position, a.readbackCarry, a.work.stream with
  | none, some v, _ => some (readbackWord v 0, { a with readbackCarry := none })
  | none, none, _ => none
  | some q, some v, x :: rest =>
    some (readbackWord v x,
      { a with readbackCarry := none, work := { a.work with stream := rest } }.settle q)
  | some q, none, x :: y :: rest =>
    some (readbackWord x y, { a with work := { a.work with stream := rest } }.settle q)
  | some _, _, _ => none

/-- Whether a READBACK has no more words of its span to push: it was the word after the last span, or its span is
finished (R102). -/
def ActiveCommand.wordsPushed (before after : ActiveCommand) : Bool :=
  before.position.isNone || after.work.stream.isEmpty

end Sys2Proof.Machine
end

