-- ==== Sys2Proof/Machine/Startup.lean ====
section
/-! DEFINITION. Device reset, the configuration block, commit, the clear pass's completion, and detach (sections 1
and 9.8). -/

namespace Sys2Proof.Machine

/-! ### Commit and the entry to RUN (R10 to R15) -/

/-- The bytes of surface memory that the sampled strap gives (R4). -/
def MemorySize.bytes : MemorySize → Nat
  | .mib16 => 16777216
  | .mib32 => 33554432

/-- Whether a committed quota is outside 1 to 32 (R10). -/
def quotaBad (q : BitVec 6) : Bool := decide (q.toNat = 0) || decide (32 < q.toNat)

/-- The sum of the four quotas. -/
def quotaSum (q : PerPort (BitVec 6)) : Nat := q.p0.toNat + q.p1.toNat + q.p2.toNat + q.p3.toNat

/-- The result of the checks of R10 in order: the code of the first that fails, else OK. -/
def validate (c : ConfigBlock) (size : MemorySize) : CommitResult :=
  if c.width.toNat < 64 ∨ 1920 < c.width.toNat ∨ c.width.toNat % 16 ≠ 0 then .badWidth
  else if c.height.toNat < 32 ∨ 1200 < c.height.toNat then .badHeight
  else if c.hblank.toNat < 16 ∨ 1024 < c.hblank.toNat ∨ c.vblank.toNat = 0 then .badBlank
  else if quotaBad c.quota.p0 || quotaBad c.quota.p1 || quotaBad c.quota.p2 || quotaBad c.quota.p3 ||
      decide (32 < quotaSum c.quota) then .badQuota
  else if size.bytes < 8 * c.width.toNat * c.height.toNat then .tooLarge
  else if c.drainMark.toNat = 0 ∨ 64 < c.drainMark.toNat then .badMark
  else if c.dataTimeout.toNat = 0 then .badTimeout
  else if c.starveLimit.toNat = 0 then .badLimit
  else .ok

/-- The entry to RUN: the Composer leaves OFF with its generator position INITIAL, and SURFACE_READY is posted to each
port (R15, R145). -/
def State.enterRun (s : State) : State :=
  ({ s with globalState := .run, clearPosition := none }.onComposer fun c =>
    { c with running := true, position := .initial }).postAll .surfaceReady

/-- A configuration write of port `p`: stored in SETUP, else ignored with LOCKED (R8, R9). -/
def State.writeConfig (s : State) (p : Port) (f : ConfigField) (w : Word) : State :=
  if s.globalState = .setup then { s with config := storeConfig f w s.config } else s.setAccessError p .locked

/-- A commit of port `p`: ignored with LOCKED outside SETUP, refused with the code of the failed check and
CONFIG_REJECTED, or taken into CLEARING or RUN (R10 to R13). -/
def State.takeCommit (s : State) (p : Port) : State :=
  if s.globalState = .setup then
    match validate s.config s.memorySize with
    | .ok =>
      let t := { s with commitResult := .ok }
      if s.config.clearOnCommit then { t with globalState := .clearing, clearPosition := some ⟨0, 0, 0⟩ }
      else t.enterRun
    | code => { s with commitResult := code }.post p (.configRejected code)
  else s.setAccessError p .locked

/-- The position of the clear pass after the one at `b`; none after the last block (R14). -/
def State.nextClear (s : State) (b : BlockName) : Option BlockName :=
  if b.column + 1 < s.surfaceWidth / 16 then some { b with column := b.column + 1 }
  else if b.row + 1 < s.surfaceHeight then some { b with row := b.row + 1, column := 0 }
  else if h : b.layer.val + 1 < 4 then some ⟨⟨b.layer.val + 1, h⟩, 0, 0⟩
  else none

/-- The clear pass after the write at `b` has completed: its position advances, or the part enters RUN (R14). -/
def State.advanceClear (s : State) (b : BlockName) : State :=
  match s.nextClear b with
  | some b' => { s with clearPosition := some b' }
  | none => s.enterRun

/-! ### Detach (R174) -/

/-- The windows of port `p` revoked by its detach, in slot order, with no notice to it (R25). -/
def State.revokeOwned (s : State) (p : Port) : State :=
  (allSlots.filter fun i => (s.slot i).live.any fun w => w.owner == p).foldl (fun t i => t.revoke i none) s

/-- The age order without the markers of port `p` (R134). -/
def dropMarkers (p : Port) (items : List AgeItem) : List AgeItem :=
  items.filter fun it => !(it.marker?.any fun m => m.port == p)

/-- The detach event of port `p`, its effects in the order of R174; the level of its reset pin is kept. -/
def State.detach (s : State) (p : Port) : State :=
  let owned := s.windowCount p
  let s1 := { s with waitList := s.waitList.erase p }.onLease p fun _ => .reset
  let s2 := s1.onBuffer fun b => { b with items := dropMarkers p b.items }
  let s3 := s2.revokeOwned p
  let s4 := { s3 with skips := s3.skips.set p 0 }.onEngine fun e =>
    if e.current.any (fun (a : ActiveCommand) => a.port == p) then e.ended else e
  let s5 := s4.onPort p fun hp => { HostPort.reset with resetPin := hp.resetPin }
  if owned = 0 then s5 else s5.evaluateWaitList

/-- A DETACH write to CONTROL: the detach of the port whether ABORT is set too or not, and no ABORT is taken (R172). -/
def execDetach (p : Port) (abortToo : Bool) (s : State) : Host.Outcome State Fault Refusal :=
  match abortToo with
  | true => .next (writeAccess s p fun t => t.detach p)
  | false => .next (writeAccess s p fun t => t.detach p)

/-- PORT_RESET (R174, R163): the assertion of the pin detaches the port unless the device reset pin is asserted, and holds
its accesses off; its deassertion is no event for any other state. A pin already at the level changes nothing (log
entry 9). -/
def execPortReset (p : Port) (level : PinLevel) (s : State) : Host.Outcome State Fault Refusal :=
  if (s.ports.get p).resetPin = level then .next s
  else match level with
    | .released => .next (s.onPort p fun hp => { hp with resetPin := .released })
    | .asserted => .next ((ownEvent s fun t => t.detach p).onPort p fun hp => { hp with resetPin := .asserted })

/-! ### Device reset (R16) -/

/-- A block in an unknown state: a free value for each pixel (R14, R135). -/
def unknownBlock (n : Nat) : Block := Vector.ofFn fun i => Config.unknownPixel n i.val

/-- Surface memory and the count of free values when a device reset abandons the access in flight: a block write leaves its
block in an unknown state, and nothing else changes (R16, R135). -/
def State.abandonAccess (s : State) : State :=
  match s.channel with
  | some ⟨.blockWrite _, b, _⟩ => { s.writeBlock b (unknownBlock s.freeCount) with freeCount := s.freeCount + 1 }
  | _ => s

/-- The assertion of the device reset pin: every block takes its reset values; surface memory, the pins' levels, the
sampled straps, the count of free values and the waiting commands are kept (R16). -/
def State.assertReset (s : State) : State :=
  let t := s.abandonAccess
  { State.reset with
    deviceReset := true
    memorySize := s.memorySize
    precedence := s.precedence
    ports := ⟨{ HostPort.reset with resetPin := s.ports.p0.resetPin },
      { HostPort.reset with resetPin := s.ports.p1.resetPin },
      { HostPort.reset with resetPin := s.ports.p2.resetPin },
      { HostPort.reset with resetPin := s.ports.p3.resetPin }⟩
    memory := t.memory
    freeCount := t.freeCount
    pending := s.pending }

/-- The straps sampled at the end of device reset (R4). -/
def State.sampleStraps (s : State) (straps : Straps) : State :=
  { s with
    deviceReset := false
    memorySize := memorySizeOf straps.msize
    precedence := ⟨precedenceOf straps.precedence.p0, precedenceOf straps.precedence.p1,
      precedenceOf straps.precedence.p2, precedenceOf straps.precedence.p3⟩ }

/-- DEVICE_RESET (R16). -/
def execDeviceReset (s : State) : Host.Outcome State Fault Refusal := .next s.assertReset

/-- DEVICE_RESET_END (R4, R16): it changes nothing while the pin is not asserted. -/
def execDeviceResetEnd (straps : Straps) (s : State) : Host.Outcome State Fault Refusal :=
  .next (if s.deviceReset then s.sampleStraps straps else s)

/-- CONFIG_WRITE (R8, R9). -/
def execConfigWrite (p : Port) (f : ConfigField) (word : Word) (s : State) : Host.Outcome State Fault Refusal :=
  .next (writeAccess s p fun t => t.writeConfig p f word)

/-- COMMIT (R10, R13): the value written is ignored. -/
def execCommit (p : Port) (_word : Word) (s : State) : Host.Outcome State Fault Refusal :=
  .next (writeAccess s p fun t => t.takeCommit p)

end Sys2Proof.Machine
end

