-- ==== Sys2Proof/Machine/Display.lean ====
section
/-! DEFINITION. The Composer and the timing generator: frame start, fetch lists, composition, underruns and the trailing
blank lines (section 8). -/

namespace Sys2Proof.Machine

/-! ### Line buffers (R150) -/

/-- The line buffer of a line: buffer 0 for an even line, buffer 1 for an odd one (R150). -/
def Composer.lineBuffer (c : Composer) (y : Nat) : LineBuffer := if y % 2 = 0 then c.buffer0 else c.buffer1

/-- The Composer with the line buffer of a line replaced. -/
def Composer.setBuffer (c : Composer) (y : Nat) (b : LineBuffer) : Composer :=
  if y % 2 = 0 then { c with buffer0 := b } else { c with buffer1 := b }

/-- A line buffer released if it serves the given line (R148, R152). -/
def LineBuffer.release (line : Nat) (b : LineBuffer) : LineBuffer := if b.serves = some line then .empty else b

/-- Release the buffer that serves the given line, if one does (R148, R152). -/
def Composer.releaseLine (c : Composer) (line : Nat) : Composer :=
  { c with buffer0 := c.buffer0.release line, buffer1 := c.buffer1.release line }

/-! ### Fetching a line (R149, R151) -/

/-- Whether a display-list item meets block column `column` of line `y` (R149). -/
def DisplayItem.meets (i : DisplayItem) (y column : Nat) : Bool :=
  decide (i.region.y ≤ y) && decide (y < i.region.y + i.region.height) &&
    decide (i.region.x ≤ 16 * column + 15) && decide (16 * column ≤ i.region.x + i.region.width - 1)

/-- The fetch list of line `y` on a surface `w` pixels wide: layers from L3 down, block columns from left to right, each
block that an item of its layer meets, once (R149). -/
def fetchListOf (list : List DisplayItem) (w y : Nat) : List LineBlock :=
  layersDown.flatMap fun layer =>
    ((List.range (w / 16)).filter fun column => list.any fun i => i.layer == layer && i.meets y column).map
      fun column => ⟨layer, column⟩

/-- The fetch of line `y` begins into its buffer (R150, R151). -/
def Composer.beginFetch (w y : Nat) (c : Composer) : Composer :=
  { c with fetchLine := some y, fetchList := fetchListOf c.displayList w y }.setBuffer y ⟨some y, []⟩

/-- Whether the fetch of line `y` is complete: nothing of it left to grant and no block of it in flight. A dropped block
belongs to an earlier fetch (R151, log entry 10). -/
def Composer.fetchComplete (c : Composer) (y : Nat) : Bool :=
  c.fetchList.isEmpty && !(c.inFlight.any fun f => f.line == y && !f.dropped)

/-! ### Composition (R153) -/

/-- Whether an item covers a pixel. -/
def DisplayItem.covers (i : DisplayItem) (x y : Nat) : Bool := regionCovers i.region x y

/-- The item of a layer that governs a pixel: the first of the list that covers it (R153). -/
def governing (list : List DisplayItem) (layer : Layer) (x y : Nat) : Option DisplayItem :=
  list.find? fun i => i.layer == layer && i.covers x y

/-- The pixel of a layer at `x` as a line buffer holds it. -/
def LineBuffer.pixel (b : LineBuffer) (layer : Layer) (x : Nat) : Pixel :=
  blockPixel ((List.lookup ⟨layer, x / 16⟩ b.blocks).getD zeroBlock) (x % 16)

/-- The value that a layer yields at a pixel; none where no item covers it or its governing key makes it transparent
(R153). -/
def layerValue (list : List DisplayItem) (b : LineBuffer) (layer : Layer) (x y : Nat) : Option Pixel :=
  match governing list layer x y with
  | some i => if i.key = some (b.pixel layer x) then none else some (b.pixel layer x)
  | none => none

/-- The pixel composed at `x` of line `y`: the value of the topmost layer that yields one, else BACKGROUND (R153). -/
def composePixel (list : List DisplayItem) (b : LineBuffer) (background : Pixel) (x y : Nat) : Pixel :=
  (layersDown.findSome? fun layer => layerValue list b layer x y).getD background

/-- The W pixels of line `y` composed (R153). -/
def composeLine (list : List DisplayItem) (b : LineBuffer) (background : Pixel) (w y : Nat) : List Pixel :=
  (List.range w).map fun x => composePixel list b background x y

/-! ### Frame start (R148) -/

/-- Whether the generator's next event is FRAME_START: from INITIAL, from the last trailing blank line, or straight from
line H − 1 with VBLANK = 1 (R146). -/
def State.frameStartDue (s : State) : Bool :=
  s.composer.running &&
    match s.composer.position with
    | .initial => true
    | .lead => false
    | .visible y => y + 1 == s.surfaceHeight && s.config.vblank.toNat == 1
    | .trailing k => k + 1 == s.config.vblank.toNat

/-- The Composer's work at a frame start, with the list handed over (R148). -/
def Composer.startFrame (w h : Nat) (list : List DisplayItem) (c : Composer) : Composer :=
  ({ c with
      displayList := list
      frameNumber := c.frameNumber + 1
      frames := c.frames + 1
      underrunReported := false
      position := .lead
      sentLine := [] }.releaseLine (h - 1)).beginFetch w 0

/-- The frame start: the Lease Manager's work, then the Composer's (R34, R148). -/
def State.frameStart (s : State) : State :=
  if s.frameStartDue then
    (s.passFrame.onComposer (Composer.startFrame s.surfaceWidth s.surfaceHeight s.buildDisplayList)).postAll
      (.frameStarted (s.composer.frameNumber + 1))
  else s

/-! ### Line due (R152, R154) -/

/-- The line that falls due next: line 0 after LEAD, line y + 1 after VISIBLE(y) while there is one (R146). -/
def State.nextLine (s : State) : Option Nat :=
  if s.composer.running then
    match s.composer.position with
    | .lead => some 0
    | .visible y => if y + 1 < s.surfaceHeight then some (y + 1) else none
    | _ => none
  else none

/-- What LINE_DUE(y) leaves at the Composer whether the line was composed or not: VISIBLE(y) with its pixels fixed, the
buffer of line y − 1 released, and the next fetch begun where there is a next line (R152, R154). -/
def Composer.sendLine (w h y : Nat) (pixels : List Pixel) (c : Composer) : Composer :=
  let d := { c with position := .visible y, sentLine := pixels }
  let e := if y = 0 then d else d.releaseLine (y - 1)
  if y + 1 < h then e.beginFetch w (y + 1) else { e with fetchLine := none }

/-- The blocks of line `y` dropped at its underrun: the fetch list emptied, and a block of the line in flight marked
(R154). -/
def Composer.dropLine (y : Nat) (c : Composer) : Composer :=
  { c with
    fetchList := []
    inFlight := c.inFlight.map fun f => if f.line = y then { f with dropped := true } else f
    underruns := c.underruns + 1
    underrunReported := true }

/-- Line `y` falls due: composed from its buffer when its fetch is complete, else sent as BACKGROUND with an underrun,
the first of a frame notified to every port (R152, R154). -/
def State.lineDueAt (s : State) (y : Nat) : State :=
  let w := s.surfaceWidth
  let h := s.surfaceHeight
  if s.composer.fetchComplete y then
    s.onComposer (Composer.sendLine w h y
      (composeLine s.composer.displayList (s.composer.lineBuffer y) s.config.background w y))
  else
    let t := s.onComposer fun c => (c.dropLine y).sendLine w h y (List.replicate w s.config.background)
    if s.composer.underrunReported then t else t.postAll (.underrun s.composer.frameNumber y)

/-- The line due event (R152). -/
def State.lineDue (s : State) : State :=
  match s.nextLine with
  | some y => s.lineDueAt y
  | none => s

/-! ### Trailing blank lines (R146) -/

/-- The number of the trailing blank line that begins next (R146). -/
def State.nextTrailing (s : State) : Option Nat :=
  if s.composer.running then
    match s.composer.position with
    | .visible y => if y + 1 = s.surfaceHeight ∧ 1 < s.config.vblank.toNat then some 1 else none
    | .trailing k => if k + 1 < s.config.vblank.toNat then some (k + 1) else none
    | _ => none
  else none

/-- The beginning of a trailing blank line: a change of the generator's position (R146, R147). -/
def State.trailingBlankLine (s : State) : State :=
  match s.nextTrailing with
  | some k => s.onComposer fun c => { c with position := .trailing k, sentLine := [] }
  | none => s

/-! ### Completion of a fetch (R151) -/

/-- A fetched block placed in the buffer of its line, or discarded when it was dropped (R151). -/
def Composer.completeFetch (b : Block) (c : Composer) : Composer :=
  match c.inFlight with
  | some f =>
    let d := { c with inFlight := none }
    if f.dropped then d
    else d.setBuffer f.line { d.lineBuffer f.line with blocks := (f.block, b) :: (d.lineBuffer f.line).blocks }
  | none => c

/-- FRAME_START (R148). -/
def execFrameStart (s : State) : Host.Outcome State Fault Refusal := .next (ownEvent s State.frameStart)

/-- LINE_DUE (R152). -/
def execLineDue (s : State) : Host.Outcome State Fault Refusal := .next (ownEvent s State.lineDue)

/-- TRAILING_BLANK_LINE (R146). -/
def execTrailingBlankLine (s : State) : Host.Outcome State Fault Refusal := .next (ownEvent s State.trailingBlankLine)

end Sys2Proof.Machine
end

