-- ==== Sys2Proof/Machine/Channel.lean ====
section
/-! DEFINITION. The surface memory channel: its standing requests, its arbiter, the grant event and the completions
(section 7). -/

namespace Sys2Proof.Machine

/-! ### Requests (R138) -/

/-- Whether the COMPOSER request stands: the line being fetched has a block not yet granted (R138, R151). -/
def State.composerStands (s : State) : Bool := s.composer.fetchLine.isSome && !s.composer.fetchList.isEmpty

/-- Whether the ENGINE_READ request stands: an engine read is recorded and not yet granted (R138). -/
def State.engineReadStands (s : State) : Bool := s.buffer.engineRead.any fun r => !r.granted

/-- Whether the CLEAR request stands: the part is in CLEARING and the write at the pass's position has not been granted
(R138). -/
def State.clearStands (s : State) : Bool :=
  s.globalState == .clearing && s.clearPosition.isSome && !(s.channel.any fun a => a.requester == .clear)

/-- The request that the arbiter chooses among those that stand (R140). -/
def State.arbitrate (s : State) : Option Requester :=
  if s.composerStands then some .composer
  else if s.engineReadStands && s.drainStands then
    match s.alternation with
    | .engineRead => some .drain
    | .drain => some .engineRead
  else if s.engineReadStands then some .engineRead
  else if s.drainStands then some .drain
  else if s.clearStands then some .clear
  else none

/-! ### The grant event (R139) -/

/-- The access that a grant to the request starts (R138, R122). -/
def State.accessFor (s : State) (q : Requester) : Option Access :=
  match q with
  | .composer =>
    match s.composer.fetchLine, s.composer.fetchList with
    | some y, b :: _ => some ⟨.blockRead, ⟨b.layer, y, b.column⟩, .composer⟩
    | _, _ => none
  | .engineRead => s.buffer.engineRead.map fun r => ⟨.blockRead, r.block, .engineRead⟩
  | .drain => s.buffer.drainHead.map Entry.drainAccess
  | .clear => s.clearPosition.map fun b => ⟨.blockWrite zeroBlock, b, .clear⟩

/-- The first block of the fetch list becomes the block in flight (R151). -/
def Composer.takeGrant (c : Composer) : Composer :=
  match c.fetchLine, c.fetchList with
  | some y, b :: rest => { c with fetchList := rest, inFlight := some ⟨b, y, false⟩ }
  | _, _ => c

/-- The chosen requester takes the grant (R139): the Composer's block leaves its list, the engine read is in flight, the
drain begins, and the alternation record takes the value of a grant to either of the last two (R140). -/
def State.takeGrant (s : State) (q : Requester) : State :=
  match q with
  | .composer => s.onComposer Composer.takeGrant
  | .engineRead =>
    State.onBuffer { s with alternation := .engineRead } fun b =>
      { b with engineRead := b.engineRead.map fun r => { r with granted := true } }
  | .drain =>
    match s.buffer.drainHead with
    | some e => State.onBuffer { s with alternation := .drain } fun b => b.drainBegin e
    | none => s
  | .clear => s

/-- Start an access for a request: the channel becomes BUSY with its record and the requester takes the grant. An access
outside the committed surface has no address and faults (R137, R139). -/
def State.startAccess (s : State) (q : Requester) (a : Access) : Host.Outcome State Fault Refusal :=
  if s.inSurface a.block then .next { s.takeGrant q with channel := some a } else .fault (.outsideSurface a.block)

/-- The grant event, taken with the channel FREE and a request standing (R139). -/
def State.grantEvent (s : State) : Host.Outcome State Fault Refusal :=
  match s.channel, s.arbitrate with
  | none, some q =>
    match s.accessFor q with
    | some a => s.startAccess q a
    | none => .next s
  | _, _ => .next s

/-! ### Completions (R141) -/

/-- The channel FREE again, its record gone (R141). -/
def State.freeChannel (s : State) : State := { s with channel := none }

/-- The completion of an underfill read (R123, R128). -/
def State.underfillCompletion (s : State) : State :=
  match s.channel with
  | some ⟨.blockRead, b, .drain⟩ => s.freeChannel.completeUnderfill (s.readBlock b)
  | _ => s

/-- The completion of a block write of the drain: its values are in memory, and its entry leaves (R124, R136). -/
def State.blockWriteCompletion (s : State) : State :=
  match s.channel with
  | some ⟨.blockWrite v, b, .drain⟩ => (s.freeChannel.writeBlock b v).completeBlockWrite
  | _ => s

/-- The delivery of an engine read: the memory data with the entries then present laid over them (R119). -/
def State.engineReadDelivery (s : State) : State :=
  match s.channel with
  | some ⟨.blockRead, b, .engineRead⟩ =>
    (s.freeChannel.onBuffer fun p => { p with engineRead := none }).onEngine
      (Engine.deliver (s.buffer.overlay b (s.readBlock b)))
  | _ => s

/-- The completion of a Composer fetch (R151). -/
def State.fetchCompletion (s : State) : State :=
  match s.channel with
  | some ⟨.blockRead, b, .composer⟩ => s.freeChannel.onComposer (Composer.completeFetch (s.readBlock b))
  | _ => s

/-- The completion of a clear write: its zeros are in memory, and the pass advances or the part enters RUN (R14). -/
def State.clearWriteCompletion (s : State) : State :=
  match s.channel with
  | some ⟨.blockWrite v, b, .clear⟩ => (s.freeChannel.writeBlock b v).advanceClear b
  | _ => s

/-- GRANT_EVENT (R139). -/
def execGrantEvent (s : State) : Host.Outcome State Fault Refusal :=
  if s.deviceReset then .next s else s.grantEvent

/-- UNDERFILL_COMPLETION (R123). -/
def execUnderfillCompletion (s : State) : Host.Outcome State Fault Refusal :=
  .next (ownEvent s State.underfillCompletion)

/-- BLOCK_WRITE_COMPLETION (R124). -/
def execBlockWriteCompletion (s : State) : Host.Outcome State Fault Refusal :=
  .next (ownEvent s State.blockWriteCompletion)

/-- ENGINE_READ_DELIVERY (R119). -/
def execEngineReadDelivery (s : State) : Host.Outcome State Fault Refusal :=
  .next (ownEvent s State.engineReadDelivery)

/-- FETCH_COMPLETION (R151). -/
def execFetchCompletion (s : State) : Host.Outcome State Fault Refusal :=
  .next (ownEvent s State.fetchCompletion)

/-- CLEAR_WRITE_COMPLETION (R14). -/
def execClearWriteCompletion (s : State) : Host.Outcome State Fault Refusal :=
  .next (ownEvent s State.clearWriteCompletion)

end Sys2Proof.Machine
end

