-- ==== Sys2Proof/Machine/Drawing.lean ====
section
/-! DEFINITION. The events of the Command Arbiter and the Raster Engine: choice, fence take, the steps of a span, the
streams, the data timeout, the end mark and the end of a command (sections 4.4, 4.5 and 5). An event whose condition does
not hold is not taken: the state stays as it is (log entry 1). -/

namespace Sys2Proof.Machine

/-- A choice event with the engine IDLE: port `p`'s head command `c` leaves its queue for the engine (R73, R74, R84). -/
def State.choose (s : State) (p : Port) (c : DrawCommand) : State :=
  ({ s with skips := s.skipsAfter p, pointer := p }.onPort p fun hp => { hp with queue := hp.queue.tail }).startCommand p c

/-- The choice event, taken with the engine IDLE and a candidate (R72, R73). -/
def State.choiceEvent (s : State) : State :=
  if s.engine.state = .idle then
    match s.pick with
    | some p =>
      match (s.ports.get p).headDraw with
      | some c => s.choose p c
      | none => s
    | none => s
  else s

/-- Whether the fence take of a port has its conditions: a FENCE at the head, no command of the port in the engine, and
fewer than 4 markers of the port (R76). -/
def State.fenceReady (s : State) (p : Port) : Bool :=
  (s.ports.get p).headFence.isSome && !(s.engine.current.any fun a => a.port == p) &&
    decide ((s.buffer.markersOf p).length < markerCapacity)

/-- The fence take: the FENCE leaves the queue, a marker is placed at the young end of the age order, and it completes at
once when no entry of the port is present (R77, R129). -/
def State.fenceTake (s : State) (p : Port) : State :=
  if s.fenceReady p then
    match (s.ports.get p).headFence with
    | some token =>
      (((s.onPort p fun hp => { hp with queue := hp.queue.tail }).onBuffer fun b =>
        { b with items := b.items ++ [.marker ⟨p, token⟩] }).completeMarkers p)
    | none => s
  else s

/-- The span post that the engine raises for its span at `q` (R94, section 6.2). -/
def ActiveCommand.post (a : ActiveCommand) (q : SpanPosition) : SpanPost :=
  ⟨a.spanBlock q, a.spanMask q, a.spanValues q, a.command.handle⟩

/-- A post of the span at `q` and what the engine makes of its outcome (R96, R113 to R116). -/
def State.postSpan (s : State) (a : ActiveCommand) (q : SpanPosition) : State :=
  match s.postOutcome (a.post q) with
  | .lost => s.faultCurrent a .windowLost
  | .full => s.onEngine fun e => { e with state := .waitBuffer, retryPost := false }
  | .merged => (s.mergePost (a.post q)).finishWriting a q (maskCount (a.spanMask q))
  | .allocated =>
    (s.allocatePost (a.post q) (s.ownerOf a.command.handle a.port)).finishWriting a q (maskCount (a.spanMask q))

/-- Whether the engine may raise a post: in RUN, or in WAIT_BUFFER once an entry has left (R94, R96, R116). -/
def Engine.mayPost (e : Engine) : Bool := e.state == .run || (e.state == .waitBuffer && e.retryPost)

/-- The span post event (R94 step 4). -/
def State.spanPost (s : State) : State :=
  match s.engine.current with
  | some a =>
    match a.position with
    | some q => if s.engine.mayPost && a.postReady q then s.postSpan a q else s
    | none => s
  | none => s

/-- A forwarded read of the span: its window check where it has one, then the read (R95, R101, R118). -/
def State.readSpan (s : State) (a : ActiveCommand) (r : NextRead) : State :=
  match r.checked with
  | some h => if s.holds h then s.raiseRead r.block else s.faultCurrent a .windowLost
  | none => s.raiseRead r.block

/-- The forwarded read event (R94, R95, R101). -/
def State.forwardedRead (s : State) : State :=
  match s.engine.current with
  | some a =>
    match a.position with
    | some q =>
      match a.nextRead q with
      | some r => if s.engine.state = .run then s.readSpan a r else s
      | none => s
    | none => s
  | none => s

/-- A pop by the engine in state RUN or WAIT_DATA for the span at `q`: an empty FIFO in RUN begins WAIT_DATA with the data
timer running; a popped word that completes the span ends the wait (R98, R99, R103). -/
def State.popUpload (s : State) (a : ActiveCommand) (q : SpanPosition) : State :=
  match (s.ports.get a.port).upload with
  | [] =>
    if s.engine.state = .run then
      s.onEngine fun e =>
        { e with state := .waitData, current := some { a with dataTimer := some s.dataTimeout } }
    else s
  | w :: rest =>
    let b := a.takeWord q w
    (s.onPort a.port fun hp => { hp with upload := rest }).onEngine fun e =>
      if b.spanLength q ≤ b.work.gathered.length then
        { e with state := .run, current := some { b with dataTimer := none } }
      else { e with current := some b }

/-- The upload pop event (R98, R99). -/
def State.uploadPop (s : State) : State :=
  match s.engine.current with
  | some a =>
    match a.position with
    | some q =>
      if a.command.kind.isUpload && !a.sourceReady q && (s.engine.state == .run || s.engine.state == .waitData) then
        s.popUpload a q
      else s
    | none => s
  | none => s

/-- A push by the engine in state RUN or WAIT_ROOM of a word, after which the command is `b`: a full FIFO in RUN begins
WAIT_ROOM with the data timer running; the last word of the span ends the wait (R101, R102, R103). -/
def State.pushReadback (s : State) (a b : ActiveCommand) (w : Word) : State :=
  if (s.ports.get a.port).readback.length < fifoCapacity then
    (s.onPort a.port fun hp => { hp with readback := hp.readback ++ [w] }).onEngine fun e =>
      if a.wordsPushed b then { e with state := .run, current := some { b with dataTimer := none } }
      else { e with current := some b }
  else if s.engine.state = .run then
    s.onEngine fun e => { e with state := .waitRoom, current := some { a with dataTimer := some s.dataTimeout } }
  else s

/-- The readback push event (R101, R102). -/
def State.readbackPush (s : State) : State :=
  match s.engine.current with
  | some a =>
    match a.nextWord with
    | some (w, b) =>
      if a.command.kind.isReadback && (s.engine.state == .run || s.engine.state == .waitRoom) then s.pushReadback a b w
      else s
    | none => s
  | none => s

/-- The finish of a span whose every pixel is skipped (R91, R94 step 2, R97). -/
def State.spanSkip (s : State) : State :=
  match s.engine.current with
  | some a =>
    match a.position with
    | some q =>
      if s.engine.state == .run && a.sourceReady q && a.allSkipped q then s.finishWriting a q 0 else s
    | none => s
  | none => s

/-- The mark event: the command ends FAULT with ABORTED (R106). -/
def State.markEvent (s : State) : State :=
  match s.engine.current with
  | some a => if a.endMark then s.faultCurrent a .aborted else s
  | none => s

/-- The end event of a command whose last span is finished, and whose last readback word is pushed: the command ends DONE
(R104, R102), also between an ABORT and the mark event (R106). Where the last span was finished only after the ABORT, it is
not taken: the command ends ABORTED at its next step, instead of DONE (R79, log entry 25). -/
def State.commandEnd (s : State) : State :=
  match s.engine.current with
  | some a => if s.engine.state == .run && a.mayEndDone then s.endDone a.port a.command else s
  | none => s

/-- The timeout event of a data timer that has reached 0: the command ends FAULT with DATA_TIMEOUT. While the timer is
stopped or has time left, as after a push or pop that restarted it, no timeout event is taken (R103). -/
def State.timeoutData (s : State) : State :=
  match s.engine.current with
  | some a =>
    if (s.engine.state == .waitData || s.engine.state == .waitRoom) && a.dataTimer == some 0 then
      s.faultCurrent a .dataTimeout
    else s
  | none => s

/-- CHOICE_EVENT (R73). -/
def execChoiceEvent (s : State) : Host.Outcome State Fault Refusal := .next (ownEvent s State.choiceEvent)

/-- FENCE_TAKE (R77). -/
def execFenceTake (p : Port) (s : State) : Host.Outcome State Fault Refusal :=
  .next (ownEvent s fun t => t.fenceTake p)

/-- SPAN_POST (R113). -/
def execSpanPost (s : State) : Host.Outcome State Fault Refusal := .next (ownEvent s State.spanPost)

/-- FORWARDED_READ (R118). -/
def execForwardedRead (s : State) : Host.Outcome State Fault Refusal := .next (ownEvent s State.forwardedRead)

/-- UPLOAD_POP (R98). -/
def execUploadPop (s : State) : Host.Outcome State Fault Refusal := .next (ownEvent s State.uploadPop)

/-- READBACK_PUSH (R101). -/
def execReadbackPush (s : State) : Host.Outcome State Fault Refusal := .next (ownEvent s State.readbackPush)

/-- SPAN_SKIP (R91). -/
def execSpanSkip (s : State) : Host.Outcome State Fault Refusal := .next (ownEvent s State.spanSkip)

/-- MARK_EVENT (R106). -/
def execMarkEvent (s : State) : Host.Outcome State Fault Refusal := .next (ownEvent s State.markEvent)

/-- COMMAND_END (R104). -/
def execCommandEnd (s : State) : Host.Outcome State Fault Refusal := .next (ownEvent s State.commandEnd)

/-- DATA_TIMEOUT (R103), taken when the data timer has reached 0 (log entry 7). -/
def execDataTimeout (s : State) : Host.Outcome State Fault Refusal := .next (ownEvent s State.timeoutData)

end Sys2Proof.Machine
end

