-- ==== Sys2Proof/Machine/Leases.lean ====
section
/-! DEFINITION. The lease operations and the timeout of a waiting request (section 3). -/

namespace Sys2Proof.Machine

/-- The REQUEST event: the checks of R41 in order, each deciding the request where it fails (R41 to R48). -/
def State.request (s : State) (p : Port) : State :=
  if s.globalState != .run then s.record p .request .notReady none
  else if (s.leaseSlots.get p).waiting.isSome then s.record p .request .busy none
  else match stagedRequest s.surfaceWidth s.surfaceHeight (s.ports.get p).lease with
    | none => s.record p .request .badRegion none
    | some r =>
      if s.quotaOf p ≤ s.windowCount p then s.record p .request .noQuota none
      else match s.decideGrant p r with
        | .noSlot => if r.wait then s.park p r else s.record p .request .noSlot none
        | .conflict => if r.wait then s.park p r else s.record p .request .conflict none
        | .granted revoked =>
          match s.performGrant p r revoked with
          | (t, some h) =>
            let u := t.record p .request .granted (some h)
            if revoked.isEmpty then u else u.evaluateWaitList
          | (t, none) => t

/-- What the first four checks of RELEASE and SET_VISIBLE decide (R50, R51). -/
def State.checkLease (s : State) (p : Port) (h : Handle) : Except LeaseResult Window :=
  if s.globalState != .run then .error .notReady
  else if (s.slot h.slot).generation != h.generation then .error .stale
  else match (s.slot h.slot).state with
    | .free => .error .notOwner
    | .held w => if w.owner != p then .error .notOwner else .ok w
    | .draining w _ => if w.owner != p then .error .notOwner else .error .notHeld
    | .revoked w _ => if w.owner != p then .error .notOwner else .error .notHeld

/-- The RELEASE event: the window goes from HELD to DRAINING with frame_passed no (R50, R23). -/
def State.release (s : State) (p : Port) (h : Handle) : State :=
  match s.checkLease p h with
  | .error r => s.record p .release r (some h)
  | .ok w => (s.onSlot h.slot fun sl => { sl with state := .draining w false }).record p .release .released (some h)

/-- The SET_VISIBLE event (R51). -/
def State.setVisible (s : State) (p : Port) (h : Handle) (v : Bool) : State :=
  match s.checkLease p h with
  | .error r => s.record p .setVisible r (some h)
  | .ok w =>
    if w.rights.mayShow then
      (s.onSlot h.slot fun sl => { sl with state := .held { w with visible := v } }).record p .setVisible .visibilitySet
        (some h)
    else s.record p .setVisible .noRight (some h)

/-- The CANCEL event (R52, R39). -/
def State.cancel (s : State) (p : Port) : State :=
  if s.globalState != .run then s.record p .cancel .notReady none
  else if (s.leaseSlots.get p).waiting.isSome then (s.unwait p).record p .cancel .cancelled none
  else s.record p .cancel .nothingWaiting none

/-- The lease operation that a LEASE_OP word names (R167, section 12.4). -/
def State.leaseOp (s : State) (p : Port) (o : LeaseOpWord) : State :=
  if o.operation = 0 then s.request p
  else if o.operation = 1 then s.release p o.handle
  else if o.operation = 2 then s.setVisible p o.handle o.visible
  else s.cancel p

/-- The timeout event of a waiting request whose remaining time has reached 0: it leaves the wait list with TIMED_OUT and
LEASE_TIMED_OUT. At any other remaining time, and when none runs for the port, no timeout event is taken (R57, R58). -/
def State.timeoutLease (s : State) (p : Port) : State :=
  if s.remainingTime p = some 0 then
    ((s.unwait p).record p .request .timedOut none).post p .leaseTimedOut
  else s

/-- REQUEST (R41). -/
def execRequest (p : Port) (s : State) : Host.Outcome State Fault Refusal :=
  .next (writeAccess s p fun t => t.request p)

/-- RELEASE (R50). -/
def execRelease (p : Port) (handle : Handle) (s : State) : Host.Outcome State Fault Refusal :=
  .next (writeAccess s p fun t => t.release p handle)

/-- SET_VISIBLE (R51). -/
def execSetVisible (p : Port) (handle : Handle) (visible : Bool) (s : State) : Host.Outcome State Fault Refusal :=
  .next (writeAccess s p fun t => t.setVisible p handle visible)

/-- CANCEL (R52). -/
def execCancel (p : Port) (s : State) : Host.Outcome State Fault Refusal :=
  .next (writeAccess s p fun t => t.cancel p)

/-- LEASE_TIMEOUT (R57), taken when the remaining time has reached 0 (log entry 7). -/
def execLeaseTimeout (p : Port) (s : State) : Host.Outcome State Fault Refusal :=
  .next (ownEvent s fun t => t.timeoutLease p)

end Sys2Proof.Machine
end

