-- ==== Sys2Proof/Machine/Submission.lean ====
section
/-! DEFINITION. The submissions: the SUBMIT write of each kind, and ABORT (sections 4.2, 4.6 and 9.3). -/

namespace Sys2Proof.Machine

/-- What a SUBMIT write asks for: a drawing kind with its tag and NOTIFY, a FENCE with its token, or no kind (R165). -/
inductive Submission where
  | drawing (kind : DrawingKind) (tag : BitVec 8) (notify : Bool)
  | fence (token : BitVec 16)
  | noKind
deriving DecidableEq, Repr

/-- The command that a submission assembles, or the result that steps 3 and 4 of R67 refuse it with. -/
def Submission.assemble (u : Submission) (c : CommandStaging) : Except SubmitResult Command :=
  match u with
  | .drawing k tag notify =>
    match stagedCommand k tag notify c with
    | some d => .ok (.draw d)
    | none => .error .badField
  | .fence token => .ok (.fence token)
  | .noKind => .error .badKind

/-- The submission event: its checks in order, its result, and the accepted command at the young end of the queue
(R67, R69, R165). -/
def State.submit (s : State) (p : Port) (u : Submission) : State :=
  if s.globalState != .run then s.onPort p fun hp => { hp with submitResult := .notReady }
  else if queueCapacity ≤ (s.ports.get p).queue.length then s.onPort p fun hp => { hp with submitResult := .queueFull }
  else match u.assemble (s.ports.get p).command with
    | .error r => s.onPort p fun hp => { hp with submitResult := r }
    | .ok c => s.onPort p fun hp => { hp with submitResult := .accepted, queue := hp.queue ++ [c] }

/-- The submission that the fields of a SUBMIT word name (R165, section 12.3). -/
def SubmitWord.submission (u : SubmitWord) : Submission :=
  if u.kind = 1 then .drawing .fill u.tag u.notify
  else if u.kind = 2 then .drawing .pattern u.tag u.notify
  else if u.kind = 3 then .drawing .copy u.tag u.notify
  else if u.kind = 4 then .drawing .upload u.tag u.notify
  else if u.kind = 5 then .drawing .readback u.tag u.notify
  else if u.kind = 6 then .fence u.token
  else .noKind

/-- FILL (R67). -/
def execFill (p : Port) (tag : BitVec 8) (notify : Bool) (s : State) : Host.Outcome State Fault Refusal :=
  .next (writeAccess s p fun t => t.submit p (.drawing .fill tag notify))

/-- PATTERN (R67). -/
def execPattern (p : Port) (tag : BitVec 8) (notify : Bool) (s : State) : Host.Outcome State Fault Refusal :=
  .next (writeAccess s p fun t => t.submit p (.drawing .pattern tag notify))

/-- COPY (R67). -/
def execCopy (p : Port) (tag : BitVec 8) (notify : Bool) (s : State) : Host.Outcome State Fault Refusal :=
  .next (writeAccess s p fun t => t.submit p (.drawing .copy tag notify))

/-- UPLOAD (R67). -/
def execUpload (p : Port) (tag : BitVec 8) (notify : Bool) (s : State) : Host.Outcome State Fault Refusal :=
  .next (writeAccess s p fun t => t.submit p (.drawing .upload tag notify))

/-- READBACK (R67). -/
def execReadback (p : Port) (tag : BitVec 8) (notify : Bool) (s : State) : Host.Outcome State Fault Refusal :=
  .next (writeAccess s p fun t => t.submit p (.drawing .readback tag notify))

/-- FENCE (R66, R67). -/
def execFence (p : Port) (token : BitVec 16) (s : State) : Host.Outcome State Fault Refusal :=
  .next (writeAccess s p fun t => t.submit p (.fence token))

/-- BAD_KIND (R165): both numbers that name no kind meet the same checks. -/
def execBadKind (p : Port) (kind : NoKind) (s : State) : Host.Outcome State Fault Refusal :=
  match kind with
  | .kind0 => .next (writeAccess s p fun t => t.submit p .noKind)
  | .kind7 => .next (writeAccess s p fun t => t.submit p .noKind)

/-- ABORT: the queue is discarded, the upload FIFO emptied, the port's running command marked, and QUEUE_ABORTED posted
with the number of commands discarded (R78). -/
def State.abort (s : State) (p : Port) : State :=
  ((s.onPort p fun hp => { hp with queue := [], upload := [] }).onCurrent fun a =>
    if a.port = p then a.mark else a).post p
    (.queueAborted (s.ports.get p).queue.length)

/-- ABORT (R78, R172). -/
def execAbort (p : Port) (s : State) : Host.Outcome State Fault Refusal :=
  .next (writeAccess s p fun t => t.abort p)

end Sys2Proof.Machine
end

