-- ==== Sys2Proof/Machine/HostAccess.lean ====
section
/-! DEFINITION. The host's accesses to FIFOs, notices, status, enables and staging registers, and the accesses that are
ignored with BAD_OFFSET (section 9). -/

namespace Sys2Proof.Machine

/-- Restart the data timer when the engine waits in state `waiting` for port `p` (R103). -/
def State.restartDataTimer (s : State) (p : Port) (waiting : EngineState) : State :=
  if s.engine.state = waiting then
    s.onCurrent fun a => if a.port = p then { a with dataTimer := some s.dataTimeout } else a
  else s

/-- A push into the upload FIFO: the word joins, restarting the data timer in WAIT_DATA, or is dropped with FIFO_FULL
(R168). -/
def State.pushUpload (s : State) (p : Port) (w : Word) : State :=
  if (s.ports.get p).upload.length < fifoCapacity then
    (s.onPort p fun hp => { hp with upload := hp.upload ++ [w] }).restartDataTimer p .waitData
  else s.setAccessError p .fifoFull

/-- A pop of the readback FIFO: the oldest word leaves, restarting the data timer in WAIT_ROOM, or FIFO_EMPTY is set
(R169). -/
def State.popReadback (s : State) (p : Port) : State :=
  match (s.ports.get p).readback with
  | [] => s.setAccessError p .fifoEmpty
  | _ :: rest => (s.onPort p fun hp => { hp with readback := rest }).restartDataTimer p .waitRoom

/-- The head notice leaves the queue, if there is one (R179). -/
def State.popNotice (s : State) (p : Port) : State := s.onPort p fun hp => { hp with notices := hp.notices.tail }

/-- A write to INT_ENABLE stores its flag (R172). -/
def State.writeIntEnable (s : State) (p : Port) (w : Word) : State :=
  s.onPort p fun hp => { hp with intEnable := flag w 0 }

/-- A write to NOTICE_ENABLE stores its flags (R181). -/
def State.writeNoticeEnable (s : State) (p : Port) (w : Word) : State :=
  s.onPort p fun hp => { hp with noticeEnable := noticeMaskOf w }

/-- A write to CONTROL: no event, ABORT, or detach, which wins over ABORT (R172). -/
def State.writeControl (s : State) (p : Port) (w : Word) : State :=
  if flag w 1 then s.detach p else if flag w 0 then s.abort p else s

/-- A write to a command staging register (R164). -/
def State.stageCommand (s : State) (p : Port) (r : Register) (w : Word) : State :=
  s.onPort p fun hp => { hp with command := storeCommand r w hp.command }

/-- A write to a lease staging register (R166). -/
def State.stageLease (s : State) (p : Port) (r : Register) (w : Word) : State :=
  s.onPort p fun hp => { hp with lease := storeLease r w hp.lease }

/-- A word written to a register: staged, stored or raised as the register's type states, or ignored for a read-only, pop
or clear-on-read register (R162, R188). -/
def State.writeRegister (s : State) (p : Port) (r : Register) (w : Word) : State :=
  match r with
  | .cmdHandle | .cmdRegionXY | .cmdRegionWH | .cmdRopMask | .cmdColour | .cmdFgBg | .cmdPattern0 | .cmdPattern1
  | .cmdOrigin | .cmdSrcHandle | .cmdSrcXY | .cmdSrcKey => s.stageCommand p r w
  | .leaseLayerRights | .leaseRegionXY | .leaseRegionWH | .leaseVisKey | .leaseFlags => s.stageLease p r w
  | .submit => s.submit p (submitWord w).submission
  | .leaseOp => s.leaseOp p (leaseOpWord w)
  | .uploadPush => s.pushUpload p w
  | .control => s.writeControl p w
  | .intEnable => s.writeIntEnable p w
  | .noticeEnable => s.writeNoticeEnable p w
  | .config f => s.writeConfig p f w
  | .commit => s.takeCommit p
  | .submitResult | .leaseResult | .leaseHandle | .readbackPop | .noticeWord0 | .noticeWord1 | .portStatus
  | .fifoStatus | .accessError | .lossCount | .portInfo | .pixelsWritten | .pixelsKeyed | .commandsDone
  | .commandsFaulted | .merges | .fullForwards | .underfills | .voided | .underruns | .frames | .commitResult
  | .globalState => s

/-- A word write at an offset: to the register there, or ignored with BAD_OFFSET where the offset holds none (R162). -/
def State.writeOffset (s : State) (p : Port) (offset : BitVec 8) (w : Word) : State :=
  match registerAt offset with
  | some r => s.writeRegister p r w
  | none => s.setAccessError p .badOffset

/-- UPLOAD_PUSH (R168). -/
def execUploadPush (p : Port) (word : Word) (s : State) : Host.Outcome State Fault Refusal :=
  .next (writeAccess s p fun t => t.pushUpload p word)

/-- READBACK_POP (R169). -/
def execReadbackPop (p : Port) (s : State) : Host.Outcome State Fault Refusal :=
  .next (readAccess s p (readRegister s p .readbackPop) fun t => t.popReadback p)

/-- NOTICE_WORD1 (R179). -/
def execNoticeWord1 (p : Port) (s : State) : Host.Outcome State Fault Refusal :=
  .next (readAccess s p (readRegister s p .noticeWord1) fun t => t.popNotice p)

/-- ACCESS_ERROR (R170). -/
def execAccessError (p : Port) (s : State) : Host.Outcome State Fault Refusal :=
  .next (readAccess s p (readRegister s p .accessError) fun t => t.setAccessError p .none)

/-- LOSS_COUNT (R178). -/
def execLossCount (p : Port) (s : State) : Host.Outcome State Fault Refusal :=
  .next (readAccess s p (readRegister s p .lossCount) fun t => t.onPort p fun hp => { hp with lossCount := 0 })

/-- INT_ENABLE (R172, R173). -/
def execIntEnable (p : Port) (word : Word) (s : State) : Host.Outcome State Fault Refusal :=
  .next (writeAccess s p fun t => t.writeIntEnable p word)

/-- NOTICE_ENABLE (R181). -/
def execNoticeEnable (p : Port) (word : Word) (s : State) : Host.Outcome State Fault Refusal :=
  .next (writeAccess s p fun t => t.writeNoticeEnable p word)

/-- REGISTER_WRITE (R188, R162). -/
def execRegisterWrite (p : Port) (offset : BitVec 8) (word : Word) (s : State) : Host.Outcome State Fault Refusal :=
  .next (writeAccess s p fun t => t.writeOffset p offset word)

/-- BAD_OFFSET (R162): the access is ignored, a read returns 0, and the access error is set. A word access at an offset that
holds a register is none of these accesses and changes nothing here. -/
def execBadOffset (p : Port) (access : BadAccess) (s : State) : Host.Outcome State Fault Refusal :=
  match access with
  | .narrowRead _ => .next (readAccess s p 0 fun t => t.setAccessError p .badOffset)
  | .narrowWrite _ => .next (writeAccess s p fun t => t.setAccessError p .badOffset)
  | .unmappedRead offset =>
    if (registerAt offset).isSome then .next s
    else .next (readAccess s p 0 fun t => t.setAccessError p .badOffset)
  | .unmappedWrite offset =>
    if (registerAt offset).isSome then .next s
    else .next (writeAccess s p fun t => t.setAccessError p .badOffset)

end Sys2Proof.Machine
end

