-- ==== Sys2Proof/Machine/Dispatch.lean ====
section
/-! DEFINITION. The dispatch: one arm for each command, each one direct call of its meaning. -/

namespace Sys2Proof.Machine

/-- The effect of a command on everything but the queue. -/
def exec (i : Instr) (s : State) : Host.Outcome State Fault Refusal :=
  match i with
  | .deviceReset => Sys2Proof.Machine.execDeviceReset s
  | .deviceResetEnd straps => Sys2Proof.Machine.execDeviceResetEnd straps s
  | .portReset p level => Sys2Proof.Machine.execPortReset p level s
  | .configWrite p field word => Sys2Proof.Machine.execConfigWrite p field word s
  | .commit p word => Sys2Proof.Machine.execCommit p word s
  | .fill p tag notify => Sys2Proof.Machine.execFill p tag notify s
  | .pattern p tag notify => Sys2Proof.Machine.execPattern p tag notify s
  | .copy p tag notify => Sys2Proof.Machine.execCopy p tag notify s
  | .upload p tag notify => Sys2Proof.Machine.execUpload p tag notify s
  | .readback p tag notify => Sys2Proof.Machine.execReadback p tag notify s
  | .fence p token => Sys2Proof.Machine.execFence p token s
  | .badKind p kind => Sys2Proof.Machine.execBadKind p kind s
  | .request p => Sys2Proof.Machine.execRequest p s
  | .release p handle => Sys2Proof.Machine.execRelease p handle s
  | .setVisible p handle visible => Sys2Proof.Machine.execSetVisible p handle visible s
  | .cancel p => Sys2Proof.Machine.execCancel p s
  | .uploadPush p word => Sys2Proof.Machine.execUploadPush p word s
  | .readbackPop p => Sys2Proof.Machine.execReadbackPop p s
  | .noticeWord1 p => Sys2Proof.Machine.execNoticeWord1 p s
  | .accessError p => Sys2Proof.Machine.execAccessError p s
  | .lossCount p => Sys2Proof.Machine.execLossCount p s
  | .abort p => Sys2Proof.Machine.execAbort p s
  | .detach p abortToo => Sys2Proof.Machine.execDetach p abortToo s
  | .intEnable p word => Sys2Proof.Machine.execIntEnable p word s
  | .noticeEnable p word => Sys2Proof.Machine.execNoticeEnable p word s
  | .registerWrite p offset word => Sys2Proof.Machine.execRegisterWrite p offset word s
  | .badOffset p access => Sys2Proof.Machine.execBadOffset p access s
  | .leaseTimeout p => Sys2Proof.Machine.execLeaseTimeout p s
  | .dataTimeout => Sys2Proof.Machine.execDataTimeout s
  | .frameStart => Sys2Proof.Machine.execFrameStart s
  | .lineDue => Sys2Proof.Machine.execLineDue s
  | .grantEvent => Sys2Proof.Machine.execGrantEvent s
  | .underfillCompletion => Sys2Proof.Machine.execUnderfillCompletion s
  | .blockWriteCompletion => Sys2Proof.Machine.execBlockWriteCompletion s
  | .engineReadDelivery => Sys2Proof.Machine.execEngineReadDelivery s
  | .fetchCompletion => Sys2Proof.Machine.execFetchCompletion s
  | .clearWriteCompletion => Sys2Proof.Machine.execClearWriteCompletion s
  | .choiceEvent => Sys2Proof.Machine.execChoiceEvent s
  | .fenceTake p => Sys2Proof.Machine.execFenceTake p s
  | .spanPost => Sys2Proof.Machine.execSpanPost s
  | .forwardedRead => Sys2Proof.Machine.execForwardedRead s
  | .uploadPop => Sys2Proof.Machine.execUploadPop s
  | .readbackPush => Sys2Proof.Machine.execReadbackPush s
  | .spanSkip => Sys2Proof.Machine.execSpanSkip s
  | .markEvent => Sys2Proof.Machine.execMarkEvent s
  | .commandEnd => Sys2Proof.Machine.execCommandEnd s
  | .trailingBlankLine => Sys2Proof.Machine.execTrailingBlankLine s

end Sys2Proof.Machine
end

