-- ==== Sys2Proof/Safety.lean ====
section
/-! DEFINITION. What a safe run keeps, in the terms that claims use: which accesses are taken, the laws that hold after
every event, and the parts of a Host Port Unit that no other port reaches. -/

namespace Sys2Proof.Machine

/-! ### Accesses -/

/-- Port `p`'s accesses are taken: neither the device reset pin nor its own reset pin is asserted (R16, R163). -/
def State.takes (s : State) (p : Port) : Prop := s.deviceReset = false ∧ (s.ports.get p).resetPin = .released

/-- The port whose access a command is; none for a pin or an event of the part's own. -/
def accessPort : Instr → Option Port
  | .configWrite p _ _ | .commit p _ | .fill p _ _ | .pattern p _ _ | .copy p _ _ | .upload p _ _ | .readback p _ _
  | .fence p _ | .badKind p _ | .request p | .release p _ | .setVisible p _ _ | .cancel p | .uploadPush p _
  | .readbackPop p | .noticeWord1 p | .accessError p | .lossCount p | .abort p | .detach p _ | .intEnable p _
  | .noticeEnable p _ | .registerWrite p _ _ | .badOffset p _ => some p
  | .deviceReset | .deviceResetEnd _ | .portReset _ _ | .leaseTimeout _ | .dataTimeout | .frameStart | .lineDue
  | .grantEvent | .underfillCompletion | .blockWriteCompletion | .engineReadDelivery | .fetchCompletion
  | .clearWriteCompletion | .choiceEvent | .fenceTake _ | .spanPost | .forwardedRead | .uploadPop | .readbackPush
  | .spanSkip | .markEvent | .commandEnd | .trailingBlankLine => none

/-- The commands that store to surface memory: the completions of block writes, and the device reset that abandons one
(R14, R124, R135). -/
def storesToMemory : Instr → Prop
  | .deviceReset => True
  | .blockWriteCompletion => True
  | .clearWriteCompletion => True
  | _ => False

/-- A Host Port Unit but for its notice queue and loss count, where every block's postings arrive. -/
def HostPort.quiet (hp : HostPort) : HostPort := { hp with notices := [], lossCount := 0 }

/-! ### Capacities (R70, R72, R82, R112, R129, R168, R169, R177, R178) -/

/-- Every queue, FIFO, count and buffer of the part is within its capacity. -/
structure Capacities (s : State) : Prop where
  queue : ∀ p, (s.ports.get p).queue.length ≤ 8
  upload : ∀ p, (s.ports.get p).upload.length ≤ 32
  readback : ∀ p, (s.ports.get p).readback.length ≤ 32
  notices : ∀ p, (s.ports.get p).notices.length ≤ 16
  lossCount : ∀ p, (s.ports.get p).lossCount ≤ 255
  skips : ∀ p, s.skips.get p ≤ 15
  occupancy : s.buffer.occupancy ≤ 64
  markers : ∀ p, (s.buffer.markersOf p).length ≤ 4
  spans : ∀ a, s.engine.current = some a → a.spansCompleted ≤ 65535

/-! ### The buffer's laws (R26, R112, R122, R130) -/

/-- At most one entry for a block is OPEN, and when one is, no entry for that block is younger (R112). -/
def OpenLaw (s : State) : Prop :=
  s.buffer.entries.Pairwise fun older younger => older.block = younger.block → older.state ≠ .opened

/-- Outstanding counts the entries that carry the slot's number and its current generation, no entry carries another
generation, and a FREE slot has none (R26, R19). -/
structure OutstandingLaw (s : State) : Prop where
  counts : ∀ i, (s.slot i).outstanding =
    s.buffer.entries.countP fun e => e.handle == ⟨i, (s.slot i).generation⟩
  generation : ∀ e ∈ s.buffer.entries, e.handle.generation = (s.slot e.handle.slot).generation
  free : ∀ i, (s.slot i).state = .free → (s.slot i).outstanding = 0

/-- An entry's port owns its window, which is HELD or DRAINING unless the entry is WRITING or VOID (R110, R122). -/
def EntryLaw (s : State) : Prop :=
  ∀ e ∈ s.buffer.entries,
    (∃ w, (s.slot e.handle.slot).window = some w ∧ w.owner = e.port) ∧
    (e.state = .opened ∨ e.state = .closed ∨ e.state = .filling → (s.slot e.handle.slot).live.isSome = true)

/-- Every marker stands behind an older entry of its port: one that no older entry precedes has completed (R130). -/
def MarkerLaw (s : State) : Prop := ∀ p, (takeMarkers p s.buffer.items).1 = []

/-- The laws that tie the Pending-Write Buffer to the window table. -/
structure BufferLaws (s : State) : Prop where
  outstanding : OutstandingLaw s
  entries : EntryLaw s
  markers : MarkerLaw s

/-! ### The Lease Manager's laws (R31, R32, R53) -/

/-- No port owns more HELD and DRAINING windows than its quota, and a port whose request waits owns fewer (R31, R41). -/
structure QuotaLaw (s : State) : Prop where
  within : ∀ p, s.windowCount p ≤ s.quotaOf p
  waiting : ∀ p, (s.leaseSlots.get p).waiting.isSome = true → s.windowCount p < s.quotaOf p

/-- No two HELD or DRAINING windows of different ports on one layer overlap (R32). -/
def OverlapLaw (s : State) : Prop :=
  ∀ i j w v, (s.slot i).live = some w → (s.slot j).live = some v → w.owner ≠ v.owner → w.layer = v.layer →
    regionsOverlap w.region v.region = false

/-- Port `p`'s waiting request stands ahead of port `q`'s: a smaller precedence number, or an equal one and an earlier park
time (R53). -/
def State.ahead (s : State) (p q : Port) : Prop :=
  ∀ w v, (s.leaseSlots.get p).waiting = some w → (s.leaseSlots.get q).waiting = some v →
    s.precedence.get p < s.precedence.get q ∨ (s.precedence.get p = s.precedence.get q ∧ w.parkTime < v.parkTime)

/-- The wait list holds the request of a port exactly when its lease slot is WAITING, once, in order of precedence and,
among equals, of park time, and every park time lies in the past (R38, R53). -/
structure WaitLaw (s : State) : Prop where
  waiting : ∀ p, p ∈ s.waitList ↔ (s.leaseSlots.get p).waiting.isSome = true
  nodup : s.waitList.Nodup
  ordered : s.waitList.Pairwise s.ahead
  parked : ∀ p w, (s.leaseSlots.get p).waiting = some w → w.parkTime < s.parkings

/-- While the device reset pin is asserted the part is in SETUP, and in SETUP no window is granted and no request waits
(R16, R36, R62). -/
structure SetupLaw (s : State) : Prop where
  reset : s.deviceReset = true → s.globalState = .setup
  table : s.globalState = .setup → ∀ i, (s.slot i).state = .free
  waitList : s.globalState = .setup → s.waitList = []

/-- The laws of the Lease Manager. -/
structure LeaseLaws (s : State) : Prop where
  quota : QuotaLaw s
  overlap : OverlapLaw s
  wait : WaitLaw s
  setup : SetupLaw s

/-! ### The laws of memory and of the frame number (R2, R158) -/

/-- Surface memory keeps its canonical form, and the frame number is FRAMES modulo 65536 (R158). -/
structure RecordLaws (s : State) : Prop where
  memory : s.memory.wf = true
  frames : s.composer.frameNumber = s.composer.frames.setWidth 16

/-! ### Every block named lies inside the surface (R18, R86, R137) -/

/-- A region lies wholly inside the committed surface (R18). -/
def State.covers (s : State) (r : Region) : Prop :=
  r.x + r.width ≤ s.surfaceWidth ∧ r.y + r.height ≤ s.surfaceHeight

/-- A block lies inside the committed surface (R137). -/
def State.holdsBlock (s : State) (b : BlockName) : Prop :=
  b.row < s.surfaceHeight ∧ b.column < s.surfaceWidth / 16

/-- The rectangles of the engine's command, at its destination and at a COPY's source, lie inside the surface, and its
span lies inside its rectangle (R86, R87, R88). -/
structure State.CommandInside (s : State) (a : ActiveCommand) : Prop where
  width : 1 ≤ a.clip.width
  height : 1 ≤ a.clip.height
  rectangle : s.covers a.rectangle
  source : ∀ rop mask h sx sy key, a.command.kind = .copy rop mask h sx sy key → s.covers (a.clip.at sx sy)
  row : ∀ q, a.position = some q → a.top ≤ q.row ∧ q.row ≤ a.bottom
  column : ∀ q, a.position = some q → a.left / 16 ≤ q.column ∧ q.column ≤ a.right / 16

/-- In SETUP no block has any work (R5, R36, R62, R80, R109, R133, R143, R144). -/
structure Quiescent (s : State) : Prop where
  table : ∀ i, (s.slot i).state = .free
  leases : ∀ p, (s.leaseSlots.get p).waiting = none
  queues : ∀ p, (s.ports.get p).queue = []
  engine : s.engine.current = none
  items : s.buffer.items = []
  engineRead : s.buffer.engineRead = none
  channel : s.channel = none
  clear : s.clearPosition = none
  running : s.composer.running = false
  fetchLine : s.composer.fetchLine = none
  fetchList : s.composer.fetchList = []

/-- Every window, waiting request, entry, recorded read, access in flight, fetch, clear write and command of the part lies inside the
surface, whose geometry is one that a commit accepts once the part has left SETUP (R1, R10, R137). -/
structure SurfaceLaws (s : State) : Prop where
  reset : s.deviceReset = true → s.globalState = .setup
  setup : s.globalState = .setup → Quiescent s
  geometry : s.globalState ≠ .setup → 0 < s.surfaceHeight ∧ 0 < s.surfaceWidth / 16 ∧ s.surfaceWidth % 16 = 0
  windows : ∀ i w, (s.slot i).window = some w → s.covers w.region
  waiting : ∀ p w, (s.leaseSlots.get p).waiting = some w → s.covers w.request.region
  entries : ∀ e ∈ s.buffer.entries, s.holdsBlock e.block
  engineRead : ∀ r, s.buffer.engineRead = some r → s.holdsBlock r.block
  channel : ∀ a, s.channel = some a → s.holdsBlock a.block
  fetchLine : ∀ y, s.composer.fetchLine = some y → y < s.surfaceHeight
  fetchList : ∀ b ∈ s.composer.fetchList, b.column < s.surfaceWidth / 16
  clear : ∀ b, s.clearPosition = some b → s.holdsBlock b
  command : ∀ a, s.engine.current = some a → s.CommandInside a

end Sys2Proof.Machine
end

