-- ==== Sys2Proof/WellFormed.lean ====
section
/-! DEFINITION. Which commands are well formed: a REGISTER_WRITE names a register whose write has no row of its own, and a
BAD_OFFSET names an access that is bad. Every other command is well formed by its type. -/

namespace Sys2Proof

/-- Whether the access is narrow, or at an offset that holds no register (R162). -/
def BadAccess.isBad : BadAccess → Bool
  | .narrowRead _ => true
  | .narrowWrite _ => true
  | .unmappedRead offset => (Machine.registerAt offset).isNone
  | .unmappedWrite offset => (Machine.registerAt offset).isNone

/-- Whether a word write at the offset reaches a register, and is no other command's row (the table's REGISTER_WRITE). -/
def plainRegisterWrite (offset : BitVec 8) (word : Word) : Bool :=
  match Machine.registerAt offset with
  | some r => !Machine.writeHasOwnRow r word
  | none => false

/-- The commands that stand for their row of the table. -/
def WellFormed : Instr → Bool
  | .registerWrite _ offset word => plainRegisterWrite offset word
  | .badOffset _ access => access.isBad
  | .deviceReset | .deviceResetEnd _ | .portReset _ _ | .configWrite _ _ _ | .commit _ _ | .fill _ _ _
  | .pattern _ _ _ | .copy _ _ _ | .upload _ _ _ | .readback _ _ _ | .fence _ _ | .badKind _ _ | .request _
  | .release _ _ | .setVisible _ _ _ | .cancel _ | .uploadPush _ _ | .readbackPop _ | .noticeWord1 _
  | .accessError _ | .lossCount _ | .abort _ | .detach _ _ | .intEnable _ _ | .noticeEnable _ _
  | .leaseTimeout _ | .dataTimeout | .frameStart | .lineDue | .grantEvent | .underfillCompletion
  | .blockWriteCompletion | .engineReadDelivery | .fetchCompletion | .clearWriteCompletion | .choiceEvent
  | .fenceTake _ | .spanPost | .forwardedRead | .uploadPop | .readbackPush | .spanSkip | .markEvent | .commandEnd
  | .trailingBlankLine => true

end Sys2Proof
end

