-- ==== Sys2Proof/Certificates/Slice0/Obligations.lean ====
section
/-! DEFINITION. The statements for the provers, from the manual's rules, family by family. -/

open Sys2Proof Sys2Proof.Machine

/-! ### Words that the statements share -/

/-- The code of the first check that fails, in the order given; none when every check passes. -/
def Sys2Proof.Claims.firstFailure {α : Type} : List (Bool × α) → Option α
  | [] => none
  | (fails, code) :: rest => if fails then some code else firstFailure rest

/-- The width of a configuration field (R7, section 12.6). -/
def Sys2Proof.Claims.configWidth : ConfigField → Nat
  | .width => 11
  | .height => 11
  | .hblank => 11
  | .vblank => 8
  | .background => 16
  | .quota _ => 6
  | .drainMark => 7
  | .dataTimeout => 16
  | .starveLimit => 4
  | .clearOnCommit => 1

/-- The register values that the table of R187 gives after device reset, for a port whose precedence straps stand at
`pins` and an MSIZE strap at `msize`. -/
def Sys2Proof.Claims.wordAfterReset (p : Port) (pins : PrecedencePins) (msize : Bool) (offset : Nat) : Nat :=
  if offset = 0x68 then 8
  else if offset = 0x78 then p.number + 256 * (2 * pins.b.toNat + pins.a.toNat)
  else if offset = 0x84 then 0x3BF6
  else if offset = 0xC0 then 640
  else if offset = 0xC4 then 480
  else if offset = 0xC8 then 160
  else if offset = 0xCC then 45
  else if offset = 0xD4 ∨ offset = 0xD8 ∨ offset = 0xDC ∨ offset = 0xE0 then 8
  else if offset = 0xE4 then 16
  else if offset = 0xE8 then 1000
  else if offset = 0xEC then 4
  else if offset = 0xF0 then 1
  else if offset = 0xFC then 256 * msize.toNat
  else 0

/-- The checks of R10 in their order, each with whether it fails. -/
def Sys2Proof.Claims.commitChecks (c : ConfigBlock) (memoryBytes : Nat) : List (Bool × CommitResult) :=
  let w := c.width.toNat
  let h := c.height.toNat
  let quotas := Port.all.map fun p => (c.quota.get p).toNat
  [(decide (w < 64 ∨ 1920 < w ∨ ¬ 16 ∣ w), .badWidth),
   (decide (h < 32 ∨ 1200 < h), .badHeight),
   (decide (c.hblank.toNat < 16 ∨ 1024 < c.hblank.toNat ∨ c.vblank = 0), .badBlank),
   (quotas.any (fun q => q == 0 || decide (32 < q)) || decide (32 < quotas.sum), .badQuota),
   (decide (memoryBytes < 8 * w * h), .tooLarge),
   (decide (c.drainMark = 0 ∨ 64 < c.drainMark.toNat), .badMark),
   (decide (c.dataTimeout = 0), .badTimeout),
   (decide (c.starveLimit = 0), .badLimit)]

/-- What the entry to RUN leaves (R15): RUN with no clear position, the Composer running from INITIAL, SURFACE_READY offered
to each port, and everything else as it was. -/
def Sys2Proof.Claims.EntersRun (s t : State) : Prop :=
  t.globalState = .run ∧ t.clearPosition = none ∧
    t.composer = { s.composer with running := true, position := .initial } ∧
    (∀ q, t.ports.get q = (s.ports.get q).offer .surfaceReady) ∧
    { t with globalState := s.globalState, clearPosition := s.clearPosition, composer := s.composer,
             ports := s.ports } = s

/-- Every byte outside the 32 bytes from byte address `a` on reads in `t` as it reads in `s`. -/
def Sys2Proof.Claims.SameOutside (a : Nat) (s t : State) : Prop :=
  ∀ x, x < a ∨ a + 32 ≤ x → t.memory.read x = s.memory.read x

/-- The places of the age order ahead of the oldest entry of port `p`. -/
def Sys2Proof.Claims.beforeEntries (p : Port) (items : List AgeItem) : List AgeItem :=
  items.takeWhile fun it => !(it.entry?.any fun e => e.port == p)

/-- The markers of port `p` that no older entry of the port precedes, in placement order (R130). -/
def Sys2Proof.Claims.completing (p : Port) (items : List AgeItem) : List Marker :=
  ((beforeEntries p items).filterMap AgeItem.marker?).filter fun m => m.port == p

/-- The age order without those markers. -/
def Sys2Proof.Claims.withoutCompleting (p : Port) (items : List AgeItem) : List AgeItem :=
  ((beforeEntries p items).filter fun it => !(it.marker?.any fun m => m.port == p)) ++
    items.drop (beforeEntries p items).length

/-- A Host Port Unit after FENCE_DONE is posted to it for each marker (R130). -/
def Sys2Proof.Claims.fenced (markers : List Marker) (hp : HostPort) : HostPort :=
  (markers.map fun m => Notice.fenceDone m.token).foldl (fun hp n => hp.offer n) hp

/-- The engine after the buffer's signal of a departure: one in WAIT_BUFFER may raise its refused post again (R116, R125). -/
def Sys2Proof.Claims.signalled (e : Engine) : Engine := { e with retryPost := e.retryPost || e.state == .waitBuffer }

open Sys2Proof.Claims

/-! ### The numbers of section 12.7 (R189) -/

/-- The number of a global state. -/
def Sys2Proof.Claims.globalStateNumber : GlobalState → Nat
  | .setup => 0
  | .clearing => 1
  | .run => 2

/-- The number of a commit result. -/
def Sys2Proof.Claims.commitNumber : CommitResult → Nat
  | .none => 0
  | .ok => 1
  | .badWidth => 2
  | .badHeight => 3
  | .badBlank => 4
  | .badQuota => 5
  | .tooLarge => 6
  | .badMark => 7
  | .badTimeout => 8
  | .badLimit => 9

/-- The number of a submit result (section 12.3). -/
def Sys2Proof.Claims.submitNumber : SubmitResult → Nat
  | .none => 0
  | .accepted => 1
  | .notReady => 2
  | .queueFull => 3
  | .badKind => 4
  | .badField => 5

/-- The number of a last operation (section 12.4). -/
def Sys2Proof.Claims.operationNumber : LeaseOperation → Nat
  | .none => 0
  | .request => 1
  | .release => 2
  | .setVisible => 3
  | .cancel => 4

/-- The lease results in the order of their numbers. -/
def Sys2Proof.Claims.leaseResults : List LeaseResult :=
  [.none, .notReady, .busy, .badRegion, .noQuota, .noSlot, .conflict, .granted, .waiting, .timedOut, .stale, .notOwner, .notHeld,
   .released, .noRight, .visibilitySet, .cancelled, .nothingWaiting]

/-- The number of an access error (section 12.5). -/
def Sys2Proof.Claims.accessErrorNumber : AccessError → Nat
  | .none => 0
  | .locked => 1
  | .fifoFull => 2
  | .fifoEmpty => 3
  | .badOffset => 4

/-- The number of a fault code. -/
def Sys2Proof.Claims.faultNumber : FaultCode → Nat
  | .staleHandle => 1
  | .notOwner => 2
  | .windowLost => 3
  | .noRight => 4
  | .outOfWindow => 5
  | .dataTimeout => 6
  | .aborted => 7

/-- The number of a notice kind. -/
def Sys2Proof.Claims.kindNumber : Notice → Nat
  | .leaseGranted _ => 1
  | .leaseTimedOut => 2
  | .windowRevoked _ _ => 4
  | .windowFreed _ => 5
  | .commandDone _ => 6
  | .commandFault _ _ _ => 7
  | .queueAborted _ => 8
  | .fenceDone _ => 9
  | .frameStarted _ => 10
  | .underrun _ _ => 11
  | .surfaceReady => 12
  | .configRejected _ => 13

/-- A handle as field A carries it, the slot in bits 4:0 and the generation in bits 15:8 (section 12.5). -/
def Sys2Proof.Claims.handleNumber (h : Handle) : Nat := h.slot.val + 256 * h.generation.toNat

/-- Field A of a notice (R176). -/
def Sys2Proof.Claims.fieldANumber : Notice → Nat
  | .leaseGranted h => handleNumber h
  | .leaseTimedOut => 0
  | .windowRevoked h _ => handleNumber h
  | .windowFreed h => handleNumber h
  | .commandDone tag => tag.toNat
  | .commandFault tag _ _ => tag.toNat
  | .queueAborted _ => 0
  | .fenceDone token => token.toNat
  | .frameStarted frame => frame.toNat
  | .underrun frame _ => frame.toNat
  | .surfaceReady => 0
  | .configRejected _ => 0

/-- The first item of field B of a notice, a number of 16 bits (R176). -/
def Sys2Proof.Claims.fieldBNumber : Notice → Nat
  | .leaseGranted _ => 0
  | .leaseTimedOut => 0
  | .windowRevoked _ requester => requester.number
  | .windowFreed _ => 0
  | .commandDone _ => 0
  | .commandFault _ code _ => faultNumber code
  | .queueAborted count => count % 65536
  | .fenceDone _ => 0
  | .frameStarted _ => 0
  | .underrun _ line => line % 65536
  | .surfaceReady => 0
  | .configRejected code => commitNumber code

/-- The second item of field B: the spans completed of a COMMAND_FAULT, 0 for every other kind (section 12.5). -/
def Sys2Proof.Claims.spansNumber : Notice → Nat
  | .commandFault _ _ spans => spans % 65536
  | _ => 0

/-! ### The step, and what every command leaves -/

/-- The command at the front of the queue runs with the queue's rest. -/
def Obligations.StepRunsFrontCommand : Prop :=
  ∀ (c : Instr) (rest : List Instr) (s : State),
    step { s with pending := c :: rest } = exec c { s with pending := rest }

/-- On an empty queue one tick of the 1 µs timebase passes: every running time falls by one, and the timeout commands of the
times at 0 are queued. Putting the tick here is the model's choice (log entry 7); the times' fall is R57's and R103's. -/
def Obligations.EmptyQueueTicks : Prop :=
  ∀ s : State, s.pending = [] → ∃ t, step s = .next t ∧
    (∀ p, t.remainingTime p = (s.remainingTime p).map (· - 1)) ∧
    t.dataTimer = s.dataTimer.map (· - 1) ∧
    (∀ p, .leaseTimeout p ∈ t.pending ↔ t.remainingTime p = some 0) ∧
    (.dataTimeout ∈ t.pending ↔ t.dataTimer = some 0) ∧
    (∀ p, (t.leaseSlots.get p).record = (s.leaseSlots.get p).record) ∧
    (∀ p, (t.leaseSlots.get p).waiting.map (fun w => { w with remaining := none }) =
      (s.leaseSlots.get p).waiting.map fun w => { w with remaining := none }) ∧
    t.engine.current.map (fun a => { a with dataTimer := none }) =
      s.engine.current.map (fun a => { a with dataTimer := none }) ∧
    { t with leaseSlots := s.leaseSlots, engine := { t.engine with current := s.engine.current },
             freeCount := s.freeCount, pending := [] } = s

/-- No command is refused, every command but GRANT_EVENT answers a next state in every state, and no command touches the
queue of waiting commands. That an event of the part's own answers a next state also out of turn, unchanged, is the model's
choice (log entry 1); that GRANT_EVENT alone can fault is log entry 21's inference; the queue is the model's own (log entries
22 and 23). -/
def Obligations.CommandsCompleteAndLeaveTheQueue : Prop :=
  ∀ (c : Instr) (s : State),
    (c ≠ .grantEvent → ∃ t, exec c s = .next t) ∧ (∀ r, exec c s ≠ .refused r) ∧
      ∀ t, exec c s = .next t → t.pending = s.pending

/-- Surface memory changes only where a block write completes or is abandoned (R2, R14, R124, R135, R136): every other
command leaves every byte as it reads. -/
def Obligations.MemoryChangesOnlyAtBlockWrites : Prop :=
  ∀ (c : Instr) (s t : State), ¬ storesToMemory c → exec c s = .next t → ∀ x, t.memory.read x = s.memory.read x

/-- The configuration changes only at CONFIG_WRITE and device reset, COMMIT_RESULT only at COMMIT and device reset, and the
sampled straps only at the end of a device reset (R4, R9, R17). That the straps keep their previous sampling from the
assertion of the pin to the end of the device reset is the model's choice (log entry 17). -/
def Sys2Proof.Claims.ConfigurationAndStrapsHeld : Prop :=
  ∀ (c : Instr) (s t : State), WellFormed c = true → exec c s = .next t →
    ((∀ p f w, c ≠ .configWrite p f w) → c ≠ .deviceReset → t.config = s.config) ∧
    ((∀ p w, c ≠ .commit p w) → c ≠ .deviceReset → t.commitResult = s.commitResult) ∧
    ((∀ straps, c ≠ .deviceResetEnd straps) → t.memorySize = s.memorySize ∧ t.precedence = s.precedence)

/-- The global state changes only on the events of R6's table, and from the state that the table gives each: DEVICE_RESET from any,
COMMIT from SETUP, and the last clear write's completion from CLEARING, in a state that meets SurfaceLaws, by which no clear write
is in flight in SETUP (R36, R144). -/
def Sys2Proof.Claims.GlobalStateTransitions : Prop :=
  ∀ (c : Instr) (s t : State), WellFormed c = true → exec c s = .next t → t.globalState ≠ s.globalState →
    (c = .deviceReset ∧ t.globalState = .setup) ∨
    (∃ p w, c = .commit p w ∧ s.globalState = .setup ∧
      firstFailure (commitChecks s.config s.memorySize.bytes) = none ∧
      t.globalState = if s.config.clearOnCommit then .clearing else .run) ∨
    (c = .clearWriteCompletion ∧ t.globalState = .run ∧ (SurfaceLaws s → s.globalState = .clearing) ∧
      ∃ v b, s.channel = some ⟨.blockWrite v, b, .clear⟩ ∧ b.layer = 3 ∧ s.surfaceHeight ≤ b.row + 1 ∧
        s.surfaceWidth / 16 ≤ b.column + 1)

/-- What R8, R9, R10 and R17 say of the configuration, the straps and COMMIT_RESULT, and R6 of the global state: which
commands change them, and how. -/
def Obligations.ConfigurationAndGlobalStateHeld : Prop := Claims.ConfigurationAndStrapsHeld ∧ Claims.GlobalStateTransitions


/-- No access of one port reaches another port's staging registers, queue, FIFOs, enables, error status, counters or reset
pin: of another Host Port Unit only the notice queue and the loss count can differ (section 9, R79). -/
def Obligations.PortsKeepTheirOwn : Prop :=
  ∀ (c : Instr) (p q : Port) (s t : State), accessPort c = some p → q ≠ p → exec c s = .next t →
    (t.ports.get q).quiet = (s.ports.get q).quiet

/-! ### Device reset, configuration and start-up -/

/-- The assertion of the device reset pin: every block takes its reset values, memory is unchanged outside the block of an
abandoned block write, and the pins' levels stay. That the sampled straps stay through the assertion is the model's choice (log
entry 17), and so is that the waiting commands stay, in the model's own queue (log entries 22 and 23). -/
def Obligations.DeviceResetAbandonsEverything : Prop :=
  ∀ s : State, ∃ t, exec .deviceReset s = .next t ∧ t.deviceReset = true ∧ t.globalState = .setup ∧
    t.config = .default ∧ t.commitResult = .none ∧ t.clearPosition = none ∧
    (∀ i, t.slot i = ⟨.free, 0, 0⟩) ∧ (∀ p, t.leaseSlots.get p = ⟨none, ⟨.none, .none, none⟩⟩) ∧ t.waitList = [] ∧
    (∀ p, t.ports.get p = { HostPort.reset with resetPin := (s.ports.get p).resetPin }) ∧
    t.pointer = .p3 ∧ (∀ p, t.skips.get p = 0) ∧ t.engine = ⟨.idle, none, false, false⟩ ∧
    t.buffer = ⟨[], none, 0, 0, 0, 0⟩ ∧ t.channel = none ∧ t.alternation = .drain ∧ t.composer = .reset ∧
    t.memorySize = s.memorySize ∧ t.precedence = s.precedence ∧ t.pending = s.pending ∧
    (∀ x, (∀ v b q, s.channel = some ⟨.blockWrite v, b, q⟩ → x < s.addressOf b ∨ s.addressOf b + 32 ≤ x) →
      t.memory.read x = s.memory.read x)

/-- The deassertion of the device reset pin samples the straps: the precedence of each port and the memory size (R4). -/
def Sys2Proof.Claims.DeviceResetEndSamplesStraps : Prop :=
  ∀ (straps : Straps) (s : State), s.deviceReset = true → ∃ t, exec (.deviceResetEnd straps) s = .next t ∧
    t.deviceReset = false ∧ t.memorySize = (if straps.msize then .mib32 else .mib16) ∧
    (∀ p, (t.precedence.get p).val = 2 * (straps.precedence.get p).b.toNat + (straps.precedence.get p).a.toNat) ∧
    { t with deviceReset := true, memorySize := s.memorySize, precedence := s.precedence } = s

/-- After a device reset every register of every port reads the value that the table of R187 gives it, and an offset that holds no
register reads 0; that an offset that is no multiple of 4 holds none is log entry 20's inference. -/
def Sys2Proof.Claims.RegistersAfterDeviceReset : Prop :=
  ∀ (s t u : State) (straps : Straps) (p : Port) (offset : BitVec 8), (s.ports.get p).resetPin = .released →
    exec .deviceReset s = .next t → exec (.deviceResetEnd straps) t = .next u →
    (readValue u p offset).toNat = wordAfterReset p (straps.precedence.get p) straps.msize offset.toNat

/-- What the status, result, information and counter registers read in a state within the capacities: the items of their layouts
at their places, with the numbers of R189, and 0 in every other bit (R71, R158, R167, R171, R182, R183, R189). -/
def Sys2Proof.Claims.StatusRegisters : Prop :=
  ∀ (s : State) (p : Port), s.takes p → Capacities s →
    let hp := s.ports.get p
    let record := (s.leaseSlots.get p).record
    let reads (offset : BitVec 8) (n : Nat) : Prop := (readValue s p offset).toNat = n
    reads 0x34 (submitNumber hp.submitResult) ∧
    (∃ n, leaseResults[n]? = some record.result ∧ reads 0x50 (operationNumber record.operation + 256 * n)) ∧
    reads 0x54 (match record.handle with
      | some h => handleNumber h + 65536
      | none => 0) ∧
    reads 0x68 ((8 - hp.queue.length) + 16 * (s.leaseSlots.get p).waiting.isSome.toNat +
      256 * globalStateNumber s.globalState + 65536 * s.composer.frameNumber.toNat) ∧
    reads 0x6C (hp.upload.length + 256 * hp.readback.length + 65536 * hp.notices.length) ∧
    reads 0x70 (accessErrorNumber hp.accessError) ∧ reads 0x74 hp.lossCount ∧
    reads 0x78 (p.number + 256 * (s.precedence.get p).val) ∧
    reads 0x80 hp.intEnable.toNat ∧ reads 0x84 hp.noticeEnable.toNat ∧
    readValue s p 0x88 = hp.pixelsWritten ∧ readValue s p 0x8C = hp.pixelsKeyed ∧
    readValue s p 0x90 = hp.commandsDone ∧ readValue s p 0x94 = hp.commandsFaulted ∧
    readValue s p 0x98 = s.buffer.merges ∧ readValue s p 0x9C = s.buffer.fullForwards ∧
    readValue s p 0xA0 = s.buffer.underfills ∧ readValue s p 0xA4 = s.buffer.voided ∧
    readValue s p 0xA8 = s.composer.underruns ∧ readValue s p 0xAC = s.composer.frames ∧
    reads 0xC0 s.config.width.toNat ∧ reads 0xC4 s.config.height.toNat ∧ reads 0xC8 s.config.hblank.toNat ∧
    reads 0xCC s.config.vblank.toNat ∧ reads 0xD0 s.config.background.toNat ∧
    reads 0xD4 s.config.quota.p0.toNat ∧ reads 0xD8 s.config.quota.p1.toNat ∧ reads 0xDC s.config.quota.p2.toNat ∧
    reads 0xE0 s.config.quota.p3.toNat ∧ reads 0xE4 s.config.drainMark.toNat ∧ reads 0xE8 s.config.dataTimeout.toNat ∧
    reads 0xEC s.config.starveLimit.toNat ∧ reads 0xF0 s.config.clearOnCommit.toNat ∧
    reads 0xF8 (commitNumber s.commitResult) ∧
    reads 0xFC (globalStateNumber s.globalState + if s.memorySize = .mib32 then 256 else 0)

/-- The end of a device reset samples the straps, every register then reads as R187 says, and the status registers read what they
report in every state within the capacities in which the port's accesses are taken (R4, R167, R171, R175, R187, R189, log
entry 20). -/
def Obligations.DeviceResetEndValues : Prop :=
  Claims.DeviceResetEndSamplesStraps ∧ Claims.RegistersAfterDeviceReset ∧ Claims.StatusRegisters


/-- While the device reset pin or a port's own reset pin is asserted, the port's accesses change nothing and its reads return
0 (R16, R163); the word last returned is the model's own field (log entry 6). -/
def Obligations.HeldAccessesIgnored : Prop :=
  ∀ (c : Instr) (p : Port) (s : State), accessPort c = some p →
    s.deviceReset = true ∨ (s.ports.get p).resetPin = .asserted →
    (∃ t, exec c s = .next t ∧ (t = s ∨ t = s.onPort p fun hp => { hp with readData := 0 })) ∧
      ∀ offset, readValue s p offset = 0

/-- A configuration write in SETUP stores the low bits of the word, as many as the field's width, and touches nothing else;
in CLEARING and RUN it is ignored with LOCKED (R8, R9). -/
def Obligations.ConfigWriteStoresOrLocks : Prop :=
  ∀ (p : Port) (f : ConfigField) (w : Word) (s : State), s.takes p →
    (s.globalState = .setup → ∃ t, exec (.configWrite p f w) s = .next t ∧
      (readConfig f t.config).toNat = w.toNat % 2 ^ configWidth f ∧
      (∀ g, g ≠ f → readConfig g t.config = readConfig g s.config) ∧ { t with config := s.config } = s) ∧
    (s.globalState ≠ .setup →
      exec (.configWrite p f w) s = .next (s.onPort p fun hp => { hp with accessError := .locked }))

/-- A commit in SETUP takes the code of the first check that fails, and answers it with CONFIG_REJECTED to the committing
port alone; when every check passes it enters CLEARING or RUN. In CLEARING and RUN it is ignored with LOCKED
(R10 to R13). -/
def Obligations.CommitOutcome : Prop :=
  ∀ (p : Port) (w : Word) (s : State), s.takes p →
    (s.globalState ≠ .setup →
      exec (.commit p w) s = .next (s.onPort p fun hp => { hp with accessError := .locked })) ∧
    (s.globalState = .setup → ∃ t, exec (.commit p w) s = .next t ∧
      match firstFailure (commitChecks s.config s.memorySize.bytes) with
      | some code =>
        t = State.onPort { s with commitResult := code } p fun hp => hp.offer (.configRejected code)
      | none =>
        if s.config.clearOnCommit then
          t = { s with commitResult := .ok, globalState := .clearing, clearPosition := some ⟨0, 0, 0⟩ }
        else EntersRun { s with commitResult := .ok } t)

/-- The completion of a clear write: its block holds the written zeros, the position advances by block column, then row,
then layer, and after the last block the part enters RUN (R14, R15). -/
def Obligations.ClearWriteCompletion : Prop :=
  ∀ (s : State) (v : Block) (b : BlockName), s.deviceReset = false → s.channel = some ⟨.blockWrite v, b, .clear⟩ →
    ∃ t u, exec .clearWriteCompletion s = .next t ∧ u.readBlock b = v ∧ SameOutside (s.addressOf b) s u ∧
      { u with channel := s.channel, memory := s.memory } = s ∧ u.channel = none ∧ t.memory = u.memory ∧
      (b.column + 1 < s.surfaceWidth / 16 → t = { u with clearPosition := some ⟨b.layer, b.row, b.column + 1⟩ }) ∧
      (s.surfaceWidth / 16 ≤ b.column + 1 → b.row + 1 < s.surfaceHeight →
        t = { u with clearPosition := some ⟨b.layer, b.row + 1, 0⟩ }) ∧
      (s.surfaceWidth / 16 ≤ b.column + 1 → s.surfaceHeight ≤ b.row + 1 → ∀ h : b.layer.val + 1 < 4,
        t = { u with clearPosition := some ⟨⟨b.layer.val + 1, h⟩, 0, 0⟩ }) ∧
      (s.surfaceWidth / 16 ≤ b.column + 1 → s.surfaceHeight ≤ b.row + 1 → b.layer = 3 → EntersRun u t)

/-! ### Leasing -/

/-- The refusals of R41: each stops at the first condition that decides the request and changes the last-result record
alone. R41 refuses a count that equals the quota; that one above it, which no run reaches, is refused too is log entry 14's
inference. -/
def Obligations.RequestRefusals : Prop :=
  ∀ (p : Port) (s : State), s.takes p →
    let refused (result : LeaseResult) : Prop :=
      exec (.request p) s = .next (s.onLease p fun l => { l with record := ⟨.request, result, none⟩ })
    (s.globalState ≠ .run → refused .notReady) ∧
    (s.globalState = .run → (s.leaseSlots.get p).waiting.isSome = true → refused .busy) ∧
    (s.globalState = .run → (s.leaseSlots.get p).waiting = none →
      match stagedRequest s.surfaceWidth s.surfaceHeight (s.ports.get p).lease with
      | none => refused .badRegion
      | some r =>
        (s.quotaOf p ≤ s.windowCount p → refused .noQuota) ∧
        (s.windowCount p < s.quotaOf p → r.wait = false →
          ((∀ i, (s.slot i).state ≠ .free) → refused .noSlot) ∧
          ((∃ i, (s.slot i).state = .free) → s.conflictSet p r ≠ [] →
            r.preempt = false ∨ (∃ i w, (s.slot i).live = some w ∧ i ∈ s.conflictSet p r ∧
              s.precedence.get w.owner ≤ s.precedence.get p) → refused .conflict)))

/-- A REQUEST in RUN from an IDLE lease slot is refused with BAD_REGION in each case of R42. In no other case does that check fail:
the staged items then make a request for exactly the staged window, which lies wholly inside the surface, whatever its key, flags
and timeout. -/
def Obligations.BadRegionExactly : Prop :=
  ∀ (p : Port) (s : State), s.takes p → s.globalState = .run → (s.leaseSlots.get p).waiting = none →
    let l := (s.ports.get p).lease
    let bad : Prop := 3 < l.layer.toNat ∨ l.width = 0 ∨ 2048 < l.width.toNat ∨ l.height = 0 ∨ 2048 < l.height.toNat ∨
      s.surfaceWidth < l.x.toNat + l.width.toNat ∨ s.surfaceHeight < l.y.toNat + l.height.toNat ∨
      (l.mayDraw = false ∧ l.mayRead = false ∧ l.mayShow = false)
    (bad → exec (.request p) s = .next (s.onLease p fun ls => { ls with record := ⟨.request, .badRegion, none⟩ })) ∧
    (¬ bad → ∃ r, stagedRequest s.surfaceWidth s.surfaceHeight l = some r ∧
      r.layer.val = l.layer.toNat ∧
      r.region = ⟨l.x.toNat, l.y.toNat, l.width.toNat, l.height.toNat⟩ ∧
      r.region.x + r.region.width ≤ s.surfaceWidth ∧ r.region.y + r.region.height ≤ s.surfaceHeight ∧
      r.rights = ⟨l.mayDraw, l.mayRead, l.mayShow⟩ ∧ r.visible = l.visible ∧
      r.key = (if l.keyPresent then some l.keyValue else none) ∧
      r.wait = l.wait ∧ r.preempt = l.preempt ∧ r.timeout = l.timeout)

/-- Steps 5 and 6 of R41 keep a request of port `p` from its grant: no slot is FREE, or it conflicts and preemption cannot clear
the conflict (R41, R46). -/
def Sys2Proof.Claims.Blocked (s : State) (p : Port) (r : LeaseRequest) : Prop :=
  (∀ i, (s.slot i).state ≠ .free) ∨ (s.conflictSet p r ≠ [] ∧
    (r.preempt = false ∨ ∃ i w, (s.slot i).live = some w ∧ i ∈ s.conflictSet p r ∧
      s.precedence.get w.owner ≤ s.precedence.get p))

/-- A request with WAIT that meets no FREE slot, or a conflict that preemption cannot clear, parks: its lease slot becomes
WAITING with its remaining time and its park time, and it joins the wait list behind every smaller or equal precedence number and
ahead of every greater one. Nothing else changes (R38, R43, R44, R53); that a park time is a count of parkings is log entry 11. -/
def Sys2Proof.Claims.ParkedRequest : Prop :=
  ∀ (p : Port) (r : LeaseRequest) (s : State), s.takes p → s.globalState = .run →
    (s.leaseSlots.get p).waiting = none →
    stagedRequest s.surfaceWidth s.surfaceHeight (s.ports.get p).lease = some r →
    s.windowCount p < s.quotaOf p → r.wait = true → Blocked s p r →
    ∃ t, exec (.request p) s = .next t ∧
      t.leaseSlots.get p = ⟨some ⟨r, if r.timeout = 0 then none else some (1000 * r.timeout.toNat), s.parkings⟩,
        ⟨.request, .waiting, none⟩⟩ ∧
      (∀ q, q ≠ p → t.leaseSlots.get q = s.leaseSlots.get q) ∧
      t.waitList = s.waitList.takeWhile (fun q => decide (s.precedence.get q ≤ s.precedence.get p)) ++
        p :: s.waitList.dropWhile (fun q => decide (s.precedence.get q ≤ s.precedence.get p)) ∧
      t.parkings = s.parkings + 1 ∧
      { t with leaseSlots := s.leaseSlots, waitList := s.waitList, parkings := s.parkings } = s

/-- The evaluation of port `p`'s waiting request leads from `s` to `t`, and revokes a window or does not: a blocked request stays
and changes nothing; any other has the windows of its conflict set revoked in slot order and is granted the lowest-numbered slot
then FREE, leaves the wait list with its lease slot IDLE and its record REQUEST, GRANTED, and its port is told (R55, R56). -/
def Sys2Proof.Claims.Evaluated (s t : State) (p : Port) (revoked : Bool) : Prop :=
  match (s.leaseSlots.get p).waiting with
  | none => t = s ∧ revoked = false
  | some w =>
    let r := w.request
    let u := (s.conflictSet p r).foldl (fun u j => u.revoke j (some p)) s
    (Blocked s p r → t = s ∧ revoked = false) ∧
    (¬ Blocked s p r → (revoked = true ↔ s.conflictSet p r ≠ []) ∧
      ∃ i, (u.slot i).state = .free ∧ (∀ j, j < i → (u.slot j).state ≠ .free) ∧
        let h : Handle := ⟨i, (u.slot i).generation + 1⟩
        let held : Slot := ⟨.held ⟨p, r.layer, r.region, r.rights, r.visible, r.key⟩, h.generation, 0⟩
        t = (((State.onSlot { u with waitList := u.waitList.erase p } i fun _ => held).onLease p fun _ =>
          ⟨none, ⟨.request, .granted, some h⟩⟩).onPort p fun hp => hp.offer (.leaseGranted h)))

/-- A pass over the requests of the ports listed, in that order, leads from `s` to `t`, and revokes a window or does not (R54). -/
def Sys2Proof.Claims.Passed : List Port → State → State → Bool → Prop
  | [], s, t, revoked => t = s ∧ revoked = false
  | p :: rest, s, t, revoked => ∃ u here later, Evaluated s u p here ∧ Passed rest u t later ∧ revoked = (here || later)

/-- The evaluation of the wait list: a pass over its requests in list order, and a further pass from the head of the list that is
then left as long as a pass revokes a window (R54 to R56). -/
def Sys2Proof.Claims.WaitListEvaluation : Prop :=
  ∀ s : State, ∃ t revoked, Passed s.waitList s t revoked ∧
    s.evaluateWaitList = if revoked then t.evaluateWaitList else t

/-- A request that cannot be granted parks with WAIT, and what an evaluation of the wait list makes of the parked requests
(R38, R43, R44, R53 to R56). -/
def Obligations.RequestParks : Prop := Claims.ParkedRequest ∧ Claims.WaitListEvaluation

/-- A request without conflicts is granted the lowest-numbered FREE slot, whose generation advances and which becomes HELD
with the request's values; no notice is posted, and nothing else changes (R20, R22, R48). -/
def Obligations.RequestGranted : Prop :=
  ∀ (p : Port) (r : LeaseRequest) (i : SlotNo) (s : State), s.takes p → s.globalState = .run →
    (s.leaseSlots.get p).waiting = none →
    stagedRequest s.surfaceWidth s.surfaceHeight (s.ports.get p).lease = some r →
    s.windowCount p < s.quotaOf p → (s.slot i).state = .free → (∀ j, j < i → (s.slot j).state ≠ .free) →
    s.conflictSet p r = [] →
    exec (.request p) s = .next
      ((s.onSlot i fun sl => ⟨.held ⟨p, r.layer, r.region, r.rights, r.visible, r.key⟩, sl.generation + 1, 0⟩).onLease p
        fun l => { l with record := ⟨.request, .granted, some ⟨i, (s.slot i).generation + 1⟩⟩ })

/-- The conflict set of a request: the slots, lowest first, whose windows are HELD or DRAINING, belong to another port, lie on the
request's layer and overlap its region as R32 defines it (R45, R47). -/
def Sys2Proof.Claims.ConflictSetOfARequest : Prop :=
  ∀ (s : State) (p : Port) (r : LeaseRequest), (s.conflictSet p r).Pairwise (· < ·) ∧
    ∀ i, i ∈ s.conflictSet p r ↔
      ∃ w, ((s.slot i).state = .held w ∨ ∃ passed, (s.slot i).state = .draining w passed) ∧ w.owner ≠ p ∧ w.layer = r.layer ∧
        w.region.x < r.region.x + r.region.width ∧ r.region.x < w.region.x + w.region.width ∧
        w.region.y < r.region.y + r.region.height ∧ r.region.y < w.region.y + w.region.height

/-- A request with PREEMPT over windows of lower precedence alone: every window of its conflict set is revoked in slot order, each as
RevocationVoids says with the requester's WINDOW_REVOKED, `v` being the state after the last; the lowest-numbered slot then FREE is
granted, `u` being the state after the grant; and the wait list is evaluated. No window of the conflict set is HELD or DRAINING any
more, of their entries only WRITING and VOID ones are left, every other slot is as it was, a port that owned none of the windows
keeps its Host Port Unit, and the rest of the part is kept (R24, R46, R47, R48, R54). -/
def Sys2Proof.Claims.PreemptingRequest : Prop :=
  ∀ (p : Port) (r : LeaseRequest) (s : State), s.takes p → s.globalState = .run →
    (s.leaseSlots.get p).waiting = none →
    stagedRequest s.surfaceWidth s.surfaceHeight (s.ports.get p).lease = some r →
    s.windowCount p < s.quotaOf p → (∃ i, (s.slot i).state = .free) → s.conflictSet p r ≠ [] → r.preempt = true →
    (∀ i ∈ s.conflictSet p r, ∀ w, (s.slot i).live = some w → s.precedence.get p < s.precedence.get w.owner) →
    let v := (s.conflictSet p r).foldl (fun v j => v.revoke j (some p)) s
    ∃ (u : State) (i : SlotNo), exec (.request p) s = .next u.evaluateWaitList ∧
      (v.slot i).state = .free ∧ (∀ j, j < i → (v.slot j).state ≠ .free) ∧
      u = (v.onSlot i fun _ =>
        ⟨.held ⟨p, r.layer, r.region, r.rights, r.visible, r.key⟩, (s.slot i).generation + 1, 0⟩).onLease p (fun l =>
          { l with record := ⟨.request, .granted, some ⟨i, (s.slot i).generation + 1⟩⟩ }) ∧
      (∀ j ∈ s.conflictSet p r, j ≠ i → (u.slot j).live = none ∧ (u.slot j).generation = (s.slot j).generation) ∧
      (∀ j, j ∉ s.conflictSet p r → j ≠ i → u.slot j = s.slot j) ∧
      (∀ j ∈ s.conflictSet p r, ∀ e ∈ u.buffer.entries, e.handle = ⟨j, (s.slot j).generation⟩ →
        e.state = .writing ∨ e.state = .voided) ∧
      (∀ q, (∀ j ∈ s.conflictSet p r, ∀ w, (s.slot j).live = some w → w.owner ≠ q) → u.ports.get q = s.ports.get q) ∧
      { u with table := s.table, leaseSlots := s.leaseSlots, ports := s.ports
               engine := { u.engine with retryPost := s.engine.retryPost }
               buffer := { u.buffer with items := s.buffer.items, voided := s.buffer.voided } } = s

/-- Which windows a request conflicts with, and what a request makes of them that preempts them all (R24, R45 to R48, R54). -/
def Obligations.RequestPreempts : Prop := Claims.PreemptingRequest ∧ Claims.ConflictSetOfARequest

/-- The revocation of a HELD or DRAINING window: its OPEN and CLOSED entries leave and are counted in VOIDED and in outstanding, a
FILLING entry becomes VOID, every other entry stays; where an entry left, the engine in WAIT_BUFFER is signalled and the owner's
markers that no older entry of it precedes complete with FENCE_DONE. The slot keeps its generation and is REVOKED, with frame_passed
no from HELD and kept from DRAINING, or FREE where R29's condition then holds; a preemption tells the owner with WINDOW_REVOKED, the
revoked handle and the requester; and nothing else changes (R24, R125, R127, R130). -/
def Obligations.RevocationVoids : Prop :=
  ∀ (s : State) (i : SlotNo) (w : Window) (passed : Bool) (preemptor : Option Port),
    (s.slot i).state = .held w ∧ passed = false ∨ (s.slot i).state = .draining w passed →
    let h : Handle := ⟨i, (s.slot i).generation⟩
    let gone (e : Entry) : Bool := e.handle == h && (e.state == .opened || e.state == .closed)
    let void (e : Entry) : Entry := if e.handle = h ∧ e.state = .filling then { e with state := .voided } else e
    let n := s.buffer.entries.countP gone
    let kept := (s.buffer.items.filter fun it => !(it.entry?.any gone)).map (AgeItem.onEntry void)
    let t := s.revoke i preemptor
    t.buffer.entries = (s.buffer.entries.filter fun e => !gone e).map void ∧
    t.buffer.items = (if n = 0 then kept else withoutCompleting w.owner kept) ∧
    t.buffer.voided = s.buffer.voided + BitVec.ofNat 32 n ∧
    t.slot i = ⟨if passed ∧ (s.slot i).outstanding - n = 0 then .free else .revoked w passed,
      (s.slot i).generation, (s.slot i).outstanding - n⟩ ∧
    (∀ j, j ≠ i → t.slot j = s.slot j) ∧
    t.engine = (if n = 0 then s.engine else signalled s.engine) ∧
    (∀ q, t.ports.get q = if q = w.owner then
        let hp := fenced (if n = 0 then [] else completing w.owner kept) (s.ports.get q)
        match preemptor with
        | some requester => hp.offer (.windowRevoked h requester)
        | none => hp
      else s.ports.get q) ∧
    { t with table := s.table, engine := s.engine, ports := s.ports
             buffer := { t.buffer with items := s.buffer.items, voided := s.buffer.voided } } = s

/-- RELEASE and SET_VISIBLE make the checks of R50 in their order, each refusal changing the last-result record alone. An
accepted RELEASE makes the window DRAINING with frame_passed no; an accepted SET_VISIBLE changes its visible value; the
record names the operation, its result and its handle, and nothing else changes (R23, R50, R51). -/
def Obligations.ReleaseAndSetVisible : Prop :=
  ∀ (p : Port) (h : Handle) (v : Bool) (s : State), s.takes p →
    let owner : Option Port := (s.slot h.slot).window.map Window.owner
    let checks : List (Bool × LeaseResult) :=
      [(s.globalState != .run, .notReady), ((s.slot h.slot).generation != h.generation, .stale),
       (owner != some p, .notOwner), ((s.slot h.slot).heldWindow.isNone, .notHeld)]
    let recorded (t : State) (op : LeaseOperation) (r : LeaseResult) : State :=
      t.onLease p fun l => { l with record := ⟨op, r, some h⟩ }
    match firstFailure checks with
    | some code =>
      exec (.release p h) s = .next (recorded s .release code) ∧
      exec (.setVisible p h v) s = .next (recorded s .setVisible code)
    | none => ∃ w, (s.slot h.slot).state = .held w ∧
      exec (.release p h) s = .next
        (recorded (s.onSlot h.slot fun sl => { sl with state := .draining w false }) .release .released) ∧
      exec (.setVisible p h v) s = .next
        (if w.rights.mayShow then
          recorded (s.onSlot h.slot fun sl => { sl with state := .held { w with visible := v } }) .setVisible
            .visibilitySet
        else recorded s .setVisible .noRight)

/-- CANCEL: in RUN, a WAITING lease slot becomes IDLE with CANCELLED and its request leaves the wait list, the others keeping
their order; an IDLE one answers NOTHING_WAITING; outside RUN the answer is NOT_READY. Nothing else changes (R52, R39). -/
def Obligations.CancelOutcome : Prop :=
  ∀ (p : Port) (s : State), s.takes p →
    (s.globalState = .run → (s.leaseSlots.get p).waiting.isSome = true →
      exec (.cancel p) s = .next (State.onLease { s with waitList := s.waitList.erase p } p fun _ =>
        ⟨none, ⟨.cancel, .cancelled, none⟩⟩)) ∧
    (s.globalState = .run → (s.leaseSlots.get p).waiting = none →
      exec (.cancel p) s = .next (s.onLease p fun l => { l with record := ⟨.cancel, .nothingWaiting, none⟩ })) ∧
    (s.globalState ≠ .run →
      exec (.cancel p) s = .next (s.onLease p fun l => { l with record := ⟨.cancel, .notReady, none⟩ }))

/-- The timeout of a waiting request whose remaining time has reached 0: it leaves the wait list, its lease slot becomes IDLE with
TIMED_OUT, and LEASE_TIMED_OUT is posted (R57, R58). At any other remaining time, and where none runs for the port, the event is not
taken and nothing changes, as log entry 1 chooses for an event out of turn. -/
def Obligations.LeaseTimeoutOutcome : Prop :=
  ∀ (p : Port) (s : State), s.deviceReset = false →
    (s.remainingTime p = some 0 →
      exec (.leaseTimeout p) s = .next
        ((State.onLease { s with waitList := s.waitList.erase p } p fun _ =>
          ⟨none, ⟨.request, .timedOut, none⟩⟩).onPort p fun hp => hp.offer .leaseTimedOut)) ∧
    (s.remainingTime p ≠ some 0 → exec (.leaseTimeout p) s = .next s)

/-! ### Command submission and the Command Arbiter -/

/-- The command of a SUBMIT write of a drawing kind (section 12.3). -/
def Sys2Proof.Claims.submitted (k : DrawingKind) (p : Port) (tag : BitVec 8) (notify : Bool) : Instr :=
  match k with
  | .fill => .fill p tag notify
  | .pattern => .pattern p tag notify
  | .copy => .copy p tag notify
  | .upload => .upload p tag notify
  | .readback => .readback p tag notify

/-- Every submission makes the checks of R67 in their order: the first that fails is the submit result, and nothing else
changes; when none fails the command joins the young end of the queue with ACCEPTED. A drawing kind takes its record from the
staging registers, a FENCE its token alone, and a kind field of 0 or 7 fails at the third check. -/
def Obligations.SubmissionOutcome : Prop :=
  ∀ (p : Port) (s : State), s.takes p →
    let hp := s.ports.get p
    let ahead : List (Bool × SubmitResult) := [(s.globalState != .run, .notReady), (decide (8 ≤ hp.queue.length), .queueFull)]
    let refused (c : Instr) (r : SubmitResult) : Prop :=
      exec c s = .next (s.onPort p fun hp => { hp with submitResult := r })
    let accepted (c : Instr) (d : Command) : Prop :=
      exec c s = .next (s.onPort p fun hp => { hp with submitResult := .accepted, queue := hp.queue ++ [d] })
    (∀ k tag notify,
      match firstFailure (ahead ++ [((stagedCommand k tag notify hp.command).isNone, .badField)]) with
      | some r => refused (submitted k p tag notify) r
      | none => ∃ d, stagedCommand k tag notify hp.command = some d ∧ accepted (submitted k p tag notify) (.draw d)) ∧
    (∀ token, match firstFailure ahead with
      | some r => refused (.fence p token) r
      | none => accepted (.fence p token) (.fence token)) ∧
    (∀ kind, refused (.badKind p kind) ((firstFailure ahead).getD .badKind))

/-- A drawing command is refused with BAD_FIELD exactly in the cases of R68 for the fields that its kind carries; an accepted
one carries the tag, the NOTIFY flag and the staged values (R64, R65, R68). -/
def Obligations.BadFieldExactly : Prop :=
  ∀ (k : DrawingKind) (tag : BitVec 8) (notify : Bool) (c : CommandStaging),
    (stagedCommand k tag notify c = none ↔
      31 < c.slot.toNat ∨ 2047 < c.x.toNat ∨ 2047 < c.y.toNat ∨ c.width = 0 ∨ 2048 < c.width.toNat ∨ c.height = 0 ∨
        2048 < c.height.toNat ∨
        (k = .copy ∧ (31 < c.sourceSlot.toNat ∨ 2047 < c.sourceX.toNat ∨ 2047 < c.sourceY.toNat)) ∨
        (k = .pattern ∧ (7 < c.originX.toNat ∨ 7 < c.originY.toNat))) ∧
    (∀ d, stagedCommand k tag notify c = some d →
      d.tag = tag ∧ d.notify = notify ∧ d.handle.slot.val = c.slot.toNat ∧ d.handle.generation = c.generation ∧
      d.region = ⟨c.x.toNat, c.y.toNat, c.width.toNat, c.height.toNat⟩ ∧
      let key := if c.keyPresent then some c.keyValue else none
      match k with
      | .fill => d.kind = .fill c.rop c.planeMask c.colour
      | .pattern => d.kind = .pattern c.rop c.planeMask c.foreground c.background (c.pattern1 ++ c.pattern0) c.originX.toNat
          c.originY.toNat c.transparent
      | .copy => ∃ h : Handle, h.slot.val = c.sourceSlot.toNat ∧ h.generation = c.sourceGeneration ∧
          d.kind = .copy c.rop c.planeMask h c.sourceX.toNat c.sourceY.toNat key
      | .upload => d.kind = .upload c.rop c.planeMask key
      | .readback => d.kind = .readback)

/-- ABORT, in every global state: the queue and the upload FIFO are emptied, a running command of the port is marked to end,
and QUEUE_ABORTED is posted with the number of commands discarded. A command marked already stays as it is. Nothing else changes
(R78, R79, R106); that the mark remembers whether the command's end was due is the model's own field (log entry 25). -/
def Obligations.AbortOutcome : Prop :=
  ∀ (p : Port) (s : State), s.takes p → ∃ t, exec (.abort p) s = .next t ∧
    t.ports.get p = ({ s.ports.get p with queue := [], upload := [] }).offer
      (.queueAborted (s.ports.get p).queue.length) ∧
    (∀ q, q ≠ p → t.ports.get q = s.ports.get q) ∧
    (∀ a, s.engine.current = some a → a.port = p → a.endMark = false →
      ∃ due, (due = true ↔ a.position = none ∧ a.readbackCarry = none) ∧
        t.engine = { s.engine with current := some { a with endMark := true, endDue := due } }) ∧
    (∀ a, s.engine.current = some a → a.port = p → a.endMark = true → t.engine = s.engine) ∧
    ((∀ a, s.engine.current = some a → a.port ≠ p) → t.engine = s.engine) ∧
    { t with ports := s.ports, engine := s.engine } = s

/-- How far a port stands behind the port after the one that the pointer names, in round-robin order (R73). -/
def Sys2Proof.Claims.turn (pointer q : Port) : Nat := (q.number + 3 - pointer.number) % 4

/-- The choice event: among the candidates whose skip count has reached STARVE_LIMIT the first in round-robin order, or, when
there is none, the first in round-robin order of those with the smallest precedence number. The head command of the chosen
port leaves its queue for the engine, the skip counts move as R74 says, and the pointer names the chosen port (R73, R74). -/
def Obligations.ChoicePicks : Prop :=
  ∀ s : State, s.deviceReset = false → s.engine.state = .idle →
    let candidate (q : Port) : Prop := ∃ c rest, (s.ports.get q).queue = .draw c :: rest
    let starved (q : Port) : Prop := candidate q ∧ s.config.starveLimit.toNat ≤ s.skips.get q
    (∃ q, candidate q) → ∃ (p : Port) (c : DrawCommand) (rest : List Command) (skips : PerPort Nat),
      (s.ports.get p).queue = .draw c :: rest ∧
      ((∃ q, starved q) → starved p ∧ ∀ q, starved q → turn s.pointer p ≤ turn s.pointer q) ∧
      ((∀ q, ¬ starved q) → (∀ q, candidate q → s.precedence.get p ≤ s.precedence.get q) ∧
        ∀ q, candidate q → s.precedence.get q = s.precedence.get p → turn s.pointer p ≤ turn s.pointer q) ∧
      skips.get p = 0 ∧
      (∀ q, q ≠ p → candidate q → skips.get q = min 15 (s.skips.get q + 1)) ∧
      (∀ q, ¬ candidate q → skips.get q = s.skips.get q) ∧
      exec .choiceEvent s = .next ((State.onPort { s with skips := skips, pointer := p } p fun hp =>
        { hp with queue := rest }).startCommand p c)

/-- The skip counts and the pointer move at a choice event as R74 states, change at no command but a choice event, a detach
and a device reset, and no read of any register sees them. -/
def Obligations.SkipCountsMoveOnlyAsStated : Prop :=
  (∀ (s : State) (p : Port) (c : DrawCommand) (rest : List Command), s.pick = some p →
    (s.ports.get p).queue = .draw c :: rest → s.deviceReset = false → s.engine.state = .idle →
    ∃ t, exec .choiceEvent s = .next t ∧ t.pointer = p ∧ t.skips.get p = 0 ∧
      (∀ q, q ≠ p → s.isCandidate q = true →
        t.skips.get q = if 15 ≤ s.skips.get q then 15 else s.skips.get q + 1) ∧
      (∀ q, q ≠ p → s.isCandidate q = false → t.skips.get q = s.skips.get q)) ∧
  (∀ (c : Instr) (s t : State), WellFormed c = true → c ≠ .choiceEvent → c ≠ .deviceReset →
    (∀ p b, c ≠ .detach p b) → (∀ p, c ≠ .portReset p .asserted) → exec c s = .next t →
    t.skips = s.skips ∧ t.pointer = s.pointer) ∧
  (∀ s t : State, s.pending = [] → step s = .next t → t.skips = s.skips ∧ t.pointer = s.pointer) ∧
  (∀ (s : State) (skips : PerPort Nat) (pointer p : Port) (offset : BitVec 8),
    readValue { s with skips := skips, pointer := pointer } p offset = readValue s p offset)

/-- The four start checks on a handle, each with whether it fails (R84). -/
def Sys2Proof.Claims.handleChecks (s : State) (p : Port) (h : Handle) (right : Rights → Bool) : List (Bool × FaultCode) :=
  [((s.slot h.slot).generation != h.generation, .staleHandle),
   ((s.slot h.slot).window.map Window.owner != some p, .notOwner),
   ((s.slot h.slot).heldWindow.isNone, .windowLost),
   (((s.slot h.slot).window.any fun w => !right w.rights), .noRight)]

/-- Whether a region lies outside a window on any side (R85). -/
def Sys2Proof.Claims.leavesWindow (r w : Region) : Bool :=
  decide (r.x < w.x) || decide (r.y < w.y) || decide (w.x + w.width < r.x + r.width) ||
    decide (w.y + w.height < r.y + r.height)

/-- The start checks of a command in their order (R84, R85). -/
def Sys2Proof.Claims.startList (s : State) (p : Port) (c : DrawCommand) : List (Bool × FaultCode) :=
  match c.kind with
  | .fill _ _ _ | .pattern _ _ _ _ _ _ _ _ => handleChecks s p c.handle Rights.mayDraw
  | .copy _ _ source _ _ _ => handleChecks s p c.handle Rights.mayDraw ++ handleChecks s p source Rights.mayRead
  | .upload _ _ _ => handleChecks s p c.handle Rights.mayDraw ++
      [((s.slot c.handle.slot).window.any fun w => leavesWindow c.region w.region, .outOfWindow)]
  | .readback => handleChecks s p c.handle Rights.mayRead ++
      [((s.slot c.handle.slot).window.any fun w => leavesWindow c.region w.region, .outOfWindow)]

/-- Whether the command reaches the pixel at offset `i`, `j` of its region: the pixel lies in its window and, for a COPY,
the source pixel in the source window (R86, R87). -/
def Sys2Proof.Claims.Reaches (s : State) (c : DrawCommand) (i j : Nat) : Prop :=
  i < c.region.width ∧ j < c.region.height ∧
  (∃ w, (s.slot c.handle.slot).window = some w ∧ regionCovers w.region (c.region.x + i) (c.region.y + j) = true) ∧
  ∀ rop mask source sx sy key, c.kind = .copy rop mask source sx sy key →
    ∃ w, (s.slot source.slot).window = some w ∧ regionCovers w.region (sx + i) (sy + j) = true

/-- The engine after its command has ended: WAIT_READ with no command while a read is outstanding, else IDLE (R83). -/
def Sys2Proof.Claims.released (e : Engine) : Engine :=
  ⟨if e.outstandingRead then .waitRead else .idle, none, e.outstandingRead, false⟩

/-- The state after the engine's command of port `p` has ended FAULT (R105). -/
def Sys2Proof.Claims.faulted (s : State) (p : Port) (tag : BitVec 8) (code : FaultCode) (spans : Nat) : State :=
  State.onPort { s with engine := released s.engine } p fun hp =>
    { hp.offer (.commandFault tag code spans) with commandsFaulted := hp.commandsFaulted + 1 }

/-- The state after the engine's command of port `p` has ended DONE (R104). -/
def Sys2Proof.Claims.doneState (s : State) (p : Port) (c : DrawCommand) : State :=
  State.onPort { s with engine := released s.engine } p fun hp =>
    { (if c.notify then hp.offer (.commandDone c.tag) else hp) with commandsDone := hp.commandsDone + 1 }

/-- A command that the engine takes: the first start check that fails ends it FAULT with 0 spans; one that reaches no pixel
ends DONE; any other runs, with a clipped rectangle of exactly the pixels it reaches, at its first span in the order of R89,
with no carry, no timer and no mark (R84 to R89, R104, R105). -/
def Obligations.StartOutcome : Prop :=
  ∀ (s : State) (p : Port) (c : DrawCommand),
    match firstFailure (startList s p c) with
    | some code => s.startCommand p c = faulted s p c.tag code 0
    | none =>
      ((∀ i j, ¬ Reaches s c i j) → s.startCommand p c = doneState s p c) ∧
      ((∃ i j, Reaches s c i j) → ∃ a : ActiveCommand,
        s.startCommand p c = { s with engine := ⟨.run, some a, s.engine.outstandingRead, false⟩ } ∧
        a.port = p ∧ a.command = c ∧ (∃ w, (s.slot c.handle.slot).state = .held w ∧ a.layer = w.layer) ∧
        (∀ i j, Reaches s c i j ↔ a.clip.dx ≤ i ∧ i < a.clip.dx + a.clip.width ∧ a.clip.dy ≤ j ∧
          j < a.clip.dy + a.clip.height) ∧
        a.uploadCarry = none ∧ a.readbackCarry = none ∧ a.dataTimer = none ∧ a.endMark = false ∧ a.endDue = false ∧
        a.spansCompleted = 0 ∧ a.work = .empty ∧
        (a.position = some ⟨if a.rows = .downward then a.top else a.bottom,
          if a.blocks = .rightward then a.left / 16 else a.right / 16⟩) ∧
        (match c.kind with
        | .copy _ _ source sx sy _ =>
          (∃ w, (s.slot source.slot).state = .held w ∧ a.sourceLayer = w.layer) ∧
          (a.rows = .upward ↔ a.layer = a.sourceLayer ∧ regionsOverlap a.rectangle (a.clip.at sx sy) = true ∧
            sy < c.region.y) ∧
          (a.blocks = .leftward ↔ a.layer = a.sourceLayer ∧ regionsOverlap a.rectangle (a.clip.at sx sy) = true ∧
            c.region.y = sy ∧ sx < c.region.x)
        | _ => a.rows = .downward ∧ a.blocks = .rightward))

/-- The `n`-th span of a command, counted from 0. -/
def Sys2Proof.Claims.nthSpan (a : ActiveCommand) : Nat → Option SpanPosition
  | 0 => some a.firstPosition
  | n + 1 => (nthSpan a n).bind a.nextPosition

/-- The spans of a clipped rectangle: one for each block column that each of its rows meets, row by row and column by column
in the command's order; the span at a position holds exactly the rectangle's pixels of its row and block column
(R88, R89). -/
def Obligations.SpansCoverTheRectangle : Prop :=
  ∀ a : ActiveCommand, 1 ≤ a.clip.width → 1 ≤ a.clip.height →
    let columns := a.right / 16 + 1 - a.left / 16
    (∀ n, n < a.clip.height * columns → nthSpan a n = some
      ⟨if a.rows = .downward then a.top + n / columns else a.bottom - n / columns,
       if a.blocks = .rightward then a.left / 16 + n % columns else a.right / 16 - n % columns⟩) ∧
    nthSpan a (a.clip.height * columns) = none ∧
    (∀ (q : SpanPosition) (x : Nat), x ∈ a.spanXs q ↔
      a.rectangle.x ≤ x ∧ x < a.rectangle.x + a.rectangle.width ∧ 16 * q.column ≤ x ∧ x < 16 * q.column + 16)

/-- In each order of R89 the source pixels of a span are pixels that no earlier span of the COPY writes. -/
def Obligations.CopyReadsBeforeItWrites : Prop :=
  ∀ (a : ActiveCommand) (rop : BitVec 4) (mask : Pixel) (h : Handle) (sx sy : Nat) (key : Option Pixel),
    a.command.kind = .copy rop mask h sx sy key → 1 ≤ a.clip.width → 1 ≤ a.clip.height → a.layer = a.sourceLayer →
    (a.rows, a.blocks) = copyOrder a.layer a.sourceLayer a.command.region sx sy a.clip →
    ∀ (m n : Nat) (earlier q : SpanPosition), m < n → nthSpan a m = some earlier → nthSpan a n = some q →
      ∀ x ∈ a.spanXs q, ¬ (sy + (q.row - a.command.region.y) = earlier.row ∧
        sx + (x - a.command.region.x) ∈ a.spanXs earlier)

/-! ### The value of each pixel -/

/-- A written pixel takes, on each plane of the plane mask, the bit of the rop number at position 2 × s + d, and keeps its
bit on every other plane; a rop's result is the same for every D exactly when the table does not mark it "Uses D"
(R92, R93). -/
def Obligations.RopTruthTable : Prop :=
  (∀ (rop : BitVec 4) (mask s d : Pixel) (i : Nat), i < 16 → (writtenValue rop mask s d).getLsbD i =
    if mask.getLsbD i then rop.getLsbD (2 * (s.getLsbD i).toNat + (d.getLsbD i).toNat) else d.getLsbD i) ∧
  (∀ rop : BitVec 4, ropUsesD rop = false ↔ ∀ s d e : Pixel, applyRop rop s d = applyRop rop s e)

/-- The source value of each pixel of a span: the colour, the pattern cell's colour, the source pixel at the same offset from
the blocks that the span's reads delivered, or the next pixel of the stream; the source blocks of a COPY span are one block or
two adjacent ones (R87, R90, R94, R98). -/
def Sys2Proof.Claims.SourceValues : Prop :=
  ∀ (a : ActiveCommand) (q : SpanPosition) (x : Nat), x ∈ a.spanXs q → a.left / 16 ≤ q.column → q.column ≤ a.right / 16 →
    match a.command.kind with
    | .fill _ _ colour => a.sourceValue q x = colour
    | .pattern _ _ foreground background cells ox oy _ => a.sourceValue q x =
        if cells.getLsbD (8 * ((q.row - a.command.region.y + oy) % 8) + (x - a.command.region.x + ox) % 8) then foreground
        else background
    | .copy _ _ _ sx sy _ =>
      let first := (sx + (a.spanFrom q - a.command.region.x)) / 16
      (∃ n, (n = 1 ∨ n = 2) ∧ a.sourceBlockNames q =
        (List.range n).map fun k => ⟨a.sourceLayer, sy + (q.row - a.command.region.y), first + k⟩) ∧
      ∀ surface : BlockName → Block, a.work.sourceBlocks = (a.sourceBlockNames q).map surface →
        let px := sx + (x - a.command.region.x)
        some (a.sourceValue q x) = (surface ⟨a.sourceLayer, sy + (q.row - a.command.region.y), px / 16⟩)[px % 16]?
    | .upload _ _ _ => ∀ v, a.work.gathered[x - a.spanFrom q]? = some v → a.sourceValue q x = v
    | .readback => True

/-- Which pixels of a span are skipped: those of a COPY or UPLOAD whose source value equals the source key, which are the keyed ones,
and those of a PATTERN with transparent background whose cell is 0; no pixel of a FILL (R91, R97). -/
def Sys2Proof.Claims.SkippedPixels : Prop :=
  ∀ (a : ActiveCommand) (q : SpanPosition) (x : Nat),
    match a.command.kind with
    | .fill _ _ _ => a.skipped q x = false ∧ a.keyedOut q x = false
    | .pattern _ _ _ _ cells ox oy transparent => a.keyedOut q x = false ∧ (a.skipped q x = true ↔ transparent = true ∧
        cells.getLsbD (8 * ((q.row - a.command.region.y + oy) % 8) + (x - a.command.region.x + ox) % 8) = false)
    | .copy _ _ _ _ _ key => (a.skipped q x = true ↔ key = some (a.sourceValue q x)) ∧ a.keyedOut q x = a.skipped q x
    | .upload _ _ key => (a.skipped q x = true ↔ key = some (a.sourceValue q x)) ∧ a.keyedOut q x = a.skipped q x
    | .readback => True

/-- When the source values of a span are gathered, when the engine needs D, and when the span is ready to be posted: D is needed where
the rop's result depends on it or the plane mask is not 0xFFFF, and a span is posted with its source gathered, a pixel not skipped, and
its destination block delivered where D is needed (R93, R94). -/
def Sys2Proof.Claims.SpanReadiness : Prop :=
  (∀ (a : ActiveCommand) (q : SpanPosition),
    a.sourceReady q = true ↔ match a.command.kind with
      | .fill _ _ _ => True
      | .pattern _ _ _ _ _ _ _ _ => True
      | .copy _ _ _ _ _ _ => (a.sourceBlockNames q).length ≤ a.work.sourceBlocks.length
      | .upload _ _ _ => (a.spanXs q).length ≤ a.work.gathered.length
      | .readback => False) ∧
  (∀ k : DrawKind,
    let uses (rop : BitVec 4) (mask : Pixel) : Prop := (∃ s d e : Pixel, applyRop rop s d ≠ applyRop rop s e) ∨ mask ≠ 0xFFFF
    k.needsD = true ↔ match k with
      | .fill rop mask _ => uses rop mask
      | .pattern rop mask _ _ _ _ _ _ => uses rop mask
      | .copy rop mask _ _ _ _ => uses rop mask
      | .upload rop mask _ => uses rop mask
      | .readback => False) ∧
  (∀ (a : ActiveCommand) (q : SpanPosition), a.postReady q = true ↔ a.sourceReady q = true ∧
    (∃ x ∈ a.spanXs q, a.skipped q x = false) ∧ (a.command.kind.needsD = true → a.work.destBlock ≠ none))

/-- What the post of a span carries: the mask of its pixels that are not skipped and, for each position, the value that the rop and
the plane mask make of the source value and the destination pixel, whatever the destination pixel is where D is not needed; the
mask's count is the number of those pixels (R92, R93, R94, R97). -/
def Sys2Proof.Claims.PostContents : Prop :=
  ∀ (a : ActiveCommand) (q : SpanPosition),
    maskCount (a.spanMask q) = (a.spanXs q).countP (fun x => !a.skipped q x) ∧
    ∀ i : Fin 16,
      let x := 16 * q.column + i.val
      ((a.spanMask q)[i] = true ↔ x ∈ a.spanXs q ∧ a.skipped q x = false) ∧
      let carries (rop : BitVec 4) (mask : Pixel) : Prop :=
        (∀ d : Block, a.work.destBlock = some d → (a.spanValues q)[i] = writtenValue rop mask (a.sourceValue q x) d[i]) ∧
        (a.command.kind.needsD = false → ∀ d : Pixel, (a.spanValues q)[i] = writtenValue rop mask (a.sourceValue q x) d)
      match a.command.kind with
      | .fill rop mask _ => carries rop mask
      | .pattern rop mask _ _ _ _ _ _ => carries rop mask
      | .copy rop mask _ _ _ _ => carries rop mask
      | .upload rop mask _ => carries rop mask
      | .readback => True

/-- The source value of each pixel of a span, which pixels are skipped, when the span is ready, and what its post carries
(R87, R90 to R94, R97, R98). -/
def Obligations.SourceValueOfEachPixel : Prop :=
  Claims.SourceValues ∧ Claims.SkippedPixels ∧ Claims.SpanReadiness ∧ Claims.PostContents

/-! ### Working a span -/

/-- The span at `q` of command `a` finished with `written` pixels posted: the port's pixel counters rise, the engine runs with
the next span begun and no post to retry (log entry 15), one more span counts, and an UPLOAD's carry becomes the next span's first
pixel, in this event as log entry 12 infers (R82, R88, R97, R98). -/
def Sys2Proof.Claims.SpanFinished (s t : State) (a : ActiveCommand) (q : SpanPosition) (written : Nat) : Prop :=
  ∃ b : ActiveCommand,
    (t = State.onPort { s with engine := ⟨.run, some b, s.engine.outstandingRead, false⟩ } a.port fun hp =>
      { hp with
        pixelsWritten := hp.pixelsWritten + BitVec.ofNat 32 written
        pixelsKeyed := hp.pixelsKeyed + BitVec.ofNat 32 ((a.spanXs q).countP (a.keyedOut q)) }) ∧
    b.position = a.nextPosition q ∧ b.spansCompleted = min 65535 (a.spansCompleted + 1) ∧
    (if a.command.kind.isUpload = true ∧ b.position ≠ none then
      b.work = ⟨a.uploadCarry.toList, [], none, []⟩ ∧ b.uploadCarry = none
    else b.work = ⟨[], [], none, []⟩ ∧ b.uploadCarry = a.uploadCarry) ∧
    { b with position := a.position, spansCompleted := a.spansCompleted, work := a.work, uploadCarry := a.uploadCarry } = a

/-- The slot that a handle names holds its generation and is HELD (R95, R113). -/
def Sys2Proof.Claims.Holds (s : State) (h : Handle) : Prop :=
  (s.slot h.slot).generation = h.generation ∧ ∃ w, (s.slot h.slot).state = .held w

/-- The youngest entry for a block is OPEN under the handle, so that a post merges into it (R114). -/
def Sys2Proof.Claims.Joins (s : State) (h : Handle) (n : BlockName) : Prop :=
  ∃ e, (s.buffer.entries.filter fun e => e.block == n).getLast? = some e ∧ e.state = .opened ∧ e.handle = h

/-- A span post has one of four outcomes: WINDOW_LOST when its window is not HELD under its generation; else a merge; else, with
64 entries present, WAIT_BUFFER with nothing else changed; else an allocation. An accepted post finishes its span
(R96, R97, R113 to R116). The engine's flag to retry a post is the model's (log entry 15), and that an UPLOAD's carry is used in the
event that finishes the span is log entry 12's inference. -/
def Obligations.SpanPostOutcome : Prop :=
  ∀ (s : State) (a : ActiveCommand) (q : SpanPosition), s.deviceReset = false → s.engine.current = some a →
    a.position = some q → s.engine.mayPost = true → a.postReady q = true →
    let h := a.command.handle
    let n : BlockName := ⟨a.layer, q.row, q.column⟩
    let o : SpanPost := ⟨n, a.spanMask q, a.spanValues q, h⟩
    (¬ Holds s h → exec .spanPost s = .next (faulted s a.port a.command.tag .windowLost a.spansCompleted)) ∧
    (Holds s h → Joins s h n →
      ∃ t, exec .spanPost s = .next t ∧ SpanFinished (s.mergePost o) t a q (maskCount (a.spanMask q))) ∧
    (Holds s h → ¬ Joins s h n → 64 ≤ s.buffer.occupancy →
      exec .spanPost s = .next { s with engine := { s.engine with state := .waitBuffer, retryPost := false } }) ∧
    (Holds s h → ¬ Joins s h n → s.buffer.occupancy < 64 → ∀ w, (s.slot h.slot).state = .held w →
      ∃ t, exec .spanPost s = .next t ∧ SpanFinished (s.allocatePost o w.owner) t a q (maskCount (a.spanMask q)))

/-- What a merge and an allocation do to the buffer. A merge lays the post's pixels over the youngest entry for its block and
keeps every other entry and the order; an allocation closes the youngest entry for the block if it is OPEN, puts an OPEN entry
with the post's contents at the young end, and raises the window's outstanding count. Markers keep their places, and nothing
else changes (R114, R115). -/
def Sys2Proof.Claims.MergeAndAllocationOverAnEntry : Prop :=
  ∀ (s : State) (o : SpanPost) (owner : Port) (old young : List AgeItem) (e : Entry),
    s.buffer.items = old ++ .entry e :: young → e.block = o.block →
    (∀ y ∈ young.filterMap AgeItem.entry?, y.block ≠ o.block) →
    (∃ e' : Entry,
      s.mergePost o = { s with buffer := { s.buffer with items := old ++ .entry e' :: young, merges := s.buffer.merges + 1 } } ∧
      { e' with mask := e.mask, data := e.data } = e ∧
      ∀ i : Fin 16, e'.mask[i] = (e.mask[i] || o.mask[i]) ∧
        e'.data[i] = if o.mask[i] then o.values[i] else e.data[i]) ∧
    s.allocatePost o owner = State.onSlot { s with buffer := { s.buffer with
        items := old ++ .entry (if e.state = .opened then { e with state := .closed } else e) :: young ++
          [.entry ⟨o.block, o.mask, o.values, o.handle, owner, .opened⟩] } } o.handle.slot
      fun sl => { sl with outstanding := sl.outstanding + 1 }

/-- An allocation where the buffer holds no entry for the block: an OPEN entry with the post's contents stands at the young end, the
window's outstanding count rises by one, and no entry and nothing else changes (R115). -/
def Sys2Proof.Claims.FirstAllocation : Prop :=
  ∀ (s : State) (o : SpanPost) (owner : Port), (∀ e ∈ s.buffer.entries, e.block ≠ o.block) →
    s.allocatePost o owner = State.onSlot { s with buffer := { s.buffer with
        items := s.buffer.items ++ [.entry ⟨o.block, o.mask, o.values, o.handle, owner, .opened⟩] } } o.handle.slot
      fun sl => { sl with outstanding := sl.outstanding + 1 }

/-- What a merge and an allocation do to the buffer, with an earlier entry for the block and without (R114, R115). -/
def Obligations.MergeAndAllocation : Prop := Claims.MergeAndAllocationOverAnEntry ∧ Claims.FirstAllocation

/-- A forwarded read: a COPY source read or a READBACK read whose window is no longer HELD under its generation ends the
command with WINDOW_LOST; otherwise the read is answered at once when the entries that are not VOID cover its block, and else
is recorded as an engine read, not yet granted, for which the engine waits (R95, R101, R118, R119). -/
def Sys2Proof.Claims.ForwardedReadOutcome : Prop :=
  ∀ (s : State) (a : ActiveCommand) (q : SpanPosition) (r : NextRead), s.deviceReset = false →
    s.engine.current = some a → a.position = some q → s.engine.state = .run → a.nextRead q = some r →
    let covered : Prop := ∀ i : Fin 16, ∃ e ∈ s.buffer.entries, e.block = r.block ∧ e.state ≠ .voided ∧ e.mask[i] = true
    ((∃ h, r.checked = some h ∧ ¬ Holds s h) →
      exec .forwardedRead s = .next (faulted s a.port a.command.tag .windowLost a.spansCompleted)) ∧
    ((∀ h, r.checked = some h → Holds s h) → covered →
      exec .forwardedRead s = .next { s with
        buffer := { s.buffer with fullForwards := s.buffer.fullForwards + 1 }
        engine := ⟨.run, some (a.takeBlock q (s.buffer.overlay r.block zeroBlock)), false, s.engine.retryPost⟩ }) ∧
    ((∀ h, r.checked = some h → Holds s h) → ¬ covered →
      exec .forwardedRead s = .next { s with
        buffer := { s.buffer with engineRead := some ⟨r.block, false⟩ }
        engine := { s.engine with state := .waitRead, outstandingRead := true } })

/-- Which read a span raises next: a READBACK its block, under its handle, until the span's pixels are read; a COPY its source
blocks in turn, each under the source handle; then a writing kind its destination block, unchecked, once the source values are
there, a pixel is not skipped, D is needed and the block is not yet delivered (R94, R95, R101). -/
def Sys2Proof.Claims.ReadsOfASpan : Prop :=
  ∀ (a : ActiveCommand) (q : SpanPosition),
    let dest : Option NextRead :=
      if (∃ x ∈ a.spanXs q, a.skipped q x = false) ∧ a.sourceReady q = true ∧ a.command.kind.needsD = true ∧
        a.work.destBlock = none then some ⟨none, ⟨a.layer, q.row, q.column⟩⟩ else none
    match a.command.kind with
    | .readback => a.nextRead q =
        if a.work.stream = [] then some ⟨some a.command.handle, ⟨a.layer, q.row, q.column⟩⟩ else none
    | .copy _ _ source _ _ _ => a.nextRead q =
        if h : a.work.sourceBlocks.length < (a.sourceBlockNames q).length then
          some ⟨some source, (a.sourceBlockNames q)[a.work.sourceBlocks.length]⟩
        else dest
    | _ => a.nextRead q = dest

/-- What the engine makes of a block delivered to its span: a COPY takes its source blocks in order and then the destination block,
every other writing kind the destination block; a READBACK takes the span's pixels from left to right, and where one pixel meets no
carry it becomes the carry and the span is finished (R82, R94, R101). -/
def Sys2Proof.Claims.DeliveredBlock : Prop :=
  ∀ (a : ActiveCommand) (q : SpanPosition) (b : Block),
    match a.command.kind with
    | .copy _ _ _ _ _ _ => a.takeBlock q b =
        if a.work.sourceBlocks.length < (a.sourceBlockNames q).length then
          { a with work := { a.work with sourceBlocks := a.work.sourceBlocks ++ [b] } }
        else { a with work := { a.work with destBlock := some b } }
    | .readback => a.spanXs q ≠ [] → ∃ pixels : List Pixel, pixels.length = (a.spanXs q).length ∧
        (∀ k x : Nat, (a.spanXs q)[k]? = some x → pixels[k]? = b[x % 16]?) ∧
        a.takeBlock q b =
          if a.readbackCarry = none ∧ pixels.length = 1 then
            { a with readbackCarry := pixels.head?, position := a.nextPosition q, work := .empty
                     spansCompleted := min 65535 (a.spansCompleted + 1) }
          else { a with work := { a.work with stream := pixels } }
    | _ => a.takeBlock q b = { a with work := { a.work with destBlock := some b } }

/-- Which read a span raises next, how the read is answered, and what the engine makes of the block (R94, R95, R101, R118, R119). -/
def Obligations.ForwardedReads : Prop := Claims.ForwardedReadOutcome ∧ Claims.ReadsOfASpan ∧ Claims.DeliveredBlock


/-- The block that a forwarded read delivers: each pixel from the youngest entry for the block that is not VOID and holds the
pixel, else from the block underneath (R118, R119). -/
def Obligations.OverlayTakesTheYoungest : Prop :=
  ∀ (b : Buffer) (n : BlockName) (base : Block) (i : Fin 16),
    (b.overlay n base)[i] =
      match (b.entries.filter fun e => e.block == n && e.state != .voided && e.mask[i]).getLast? with
      | some e => e.data[i]
      | none => base[i]

/-- The upload pop: an empty FIFO makes the engine in RUN wait with the data timer at DATA_TIMEOUT and leaves an engine in
WAIT_DATA waiting; otherwise the oldest word leaves the FIFO and its pixels, the low half first, join the span as far as it
needs them, one beyond becoming the carry; a gathered span ends the wait and stops the timer (R98, R99, R103). That a pop need not
look at a carry, since the carry was used when the span began, is log entry 12's inference. -/
def Obligations.UploadPopOutcome : Prop :=
  ∀ (s : State) (a : ActiveCommand) (q : SpanPosition), s.deviceReset = false → s.engine.current = some a →
    a.position = some q → a.command.kind.isUpload = true → a.work.gathered.length < a.spanLength q →
    s.engine.state = .run ∨ s.engine.state = .waitData →
    let need := a.spanLength q - a.work.gathered.length
    ((s.ports.get a.port).upload = [] → exec .uploadPop s = .next
      (if s.engine.state = .run then { s with engine := { s.engine with
        state := .waitData, current := some { a with dataTimer := some s.config.dataTimeout.toNat } } } else s)) ∧
    ∀ w rest, (s.ports.get a.port).upload = w :: rest →
      exec .uploadPop s = .next (State.onPort { s with engine := { s.engine with
          state := if need ≤ 2 then .run else s.engine.state
          current := some { a with
            work := { a.work with gathered := a.work.gathered ++
              ([w.extractLsb' 0 16, w.extractLsb' 16 16] : List Pixel).take need }
            uploadCarry := if need = 1 then some (w.extractLsb' 16 16) else a.uploadCarry
            dataTimer := if need ≤ 2 then none else a.dataTimer } } } a.port
        fun hp => { hp with upload := rest })

/-- The word that a READBACK pushes next: the carry and the span's next pixels, two to a word, the first in the low half; the
span is finished once fewer than two pixels wait, the one left becoming the carry; after the last span the carry is pushed
with 0 in the high half (R101, R102). -/
def Sys2Proof.Claims.ReadbackWords : Prop :=
  ∀ a : ActiveCommand, a.command.kind = .readback →
    (∀ q x y rest, a.position = some q → a.work.stream ≠ [] → a.readbackCarry.toList ++ a.work.stream = x :: y :: rest →
      ∃ b, a.nextWord = some (y ++ x, b) ∧
        (if rest.length ≤ 1 then
          b.readbackCarry = rest.head? ∧ b.position = a.nextPosition q ∧ b.work = .empty ∧
            b.spansCompleted = min 65535 (a.spansCompleted + 1)
        else b.readbackCarry = none ∧ b.position = some q ∧ b.work = { a.work with stream := rest } ∧
          b.spansCompleted = a.spansCompleted) ∧
        { b with readbackCarry := a.readbackCarry, position := a.position, work := a.work,
                 spansCompleted := a.spansCompleted } = a) ∧
    (∀ v, a.position = none → a.readbackCarry = some v →
      a.nextWord = some ((0 : Pixel) ++ v, { a with readbackCarry := none })) ∧
    (a.position = none → a.readbackCarry = none → a.nextWord = none)

/-- The readback push: the word joins the port's FIFO while it holds fewer than 32 words; a full FIFO makes the engine in RUN
wait with the data timer at DATA_TIMEOUT and leaves an engine in WAIT_ROOM waiting. The span's last word ends the wait and stops
the timer (R101, R102, R103). -/
def Sys2Proof.Claims.ReadbackPushOutcome : Prop :=
  ∀ (s : State) (a b : ActiveCommand) (w : Word), s.deviceReset = false → s.engine.current = some a →
    a.command.kind = .readback → s.engine.state = .run ∨ s.engine.state = .waitRoom → a.nextWord = some (w, b) →
    let last : Prop := a.position = none ∨ b.work.stream = []
    ((s.ports.get a.port).readback.length < 32 → exec .readbackPush s = .next
      (State.onPort { s with engine := { s.engine with
          state := if last then .run else s.engine.state
          current := some { b with dataTimer := if last then none else b.dataTimer } } } a.port
        fun hp => { hp with readback := hp.readback ++ [w] })) ∧
    (32 ≤ (s.ports.get a.port).readback.length → exec .readbackPush s = .next
      (if s.engine.state = .run then { s with engine := { s.engine with
        state := .waitRoom, current := some { a with dataTimer := some s.config.dataTimeout.toNat } } } else s))

/-- The words that a READBACK forms, and what their pushes do (R101, R102, R103). -/
def Obligations.ReadbackPushes : Prop := Claims.ReadbackWords ∧ Claims.ReadbackPushOutcome


/-- A span whose every pixel is skipped is finished without a read or a post, an UPLOAD's carry being used in that event as log
entry 12 infers; and a command whose last span is finished, with no readback pixel left to push, ends DONE in its end event, also in
one taken between an ABORT and the mark event (R91, R97, R104, R106). Where its last span was finished only after the ABORT, the end
event is not taken, and the command ends ABORTED at its next step, instead of DONE (R79); that R79 and R106 divide the cases so is log
entry 25's inference. -/
def Sys2Proof.Claims.SkippedSpanAndDoneEnd : Prop :=
  ∀ (s : State) (a : ActiveCommand), s.deviceReset = false → s.engine.current = some a → s.engine.state = .run →
    (∀ q, a.position = some q → a.sourceReady q = true → (∀ x ∈ a.spanXs q, a.skipped q x = true) →
      ∃ t, exec .spanSkip s = .next t ∧ SpanFinished s t a q 0) ∧
    (a.position = none → a.readbackCarry = none →
      (a.endMark = false ∨ a.endDue = true → exec .commandEnd s = .next (doneState s a.port a.command)) ∧
      (a.endMark = true → a.endDue = false → exec .commandEnd s = .next s))

/-- The mark event of an aborted command and, in WAIT_DATA and WAIT_ROOM, the timeout event of a data timer that has reached 0 end the
command FAULT, with ABORTED and DATA_TIMEOUT and the spans completed so far (R79, R103, R105, R106). Without a mark, and with the timer
stopped or time left on it, the event is not taken and nothing changes, as log entry 1 chooses for an event out of turn. -/
def Sys2Proof.Claims.MarkAndTimeoutFault : Prop :=
  ∀ (s : State) (a : ActiveCommand), s.deviceReset = false → s.engine.current = some a →
    exec .markEvent s = .next (if a.endMark then faulted s a.port a.command.tag .aborted a.spansCompleted else s) ∧
    exec .dataTimeout s = .next
      (if (s.engine.state = .waitData ∨ s.engine.state = .waitRoom) ∧ a.dataTimer = some 0 then
        faulted s a.port a.command.tag .dataTimeout a.spansCompleted else s)

/-- A skipped span's finish, and the ends of a command that the engine holds: DONE, on its mark, and on its data timer
(R91, R97, R103 to R106). -/
def Obligations.EndsOfACommand : Prop := Claims.SkippedSpanAndDoneEnd ∧ Claims.MarkAndTimeoutFault


/-- The fence take: with a FENCE at the head of the port's queue, no command of the port in the engine and fewer than 4 markers
of the port, the FENCE leaves the queue, and its marker stands at the young end of the age order, or completes at once with
FENCE_DONE when the buffer holds no entry of the port; otherwise nothing changes (R76, R77, R129, R130). -/
def Obligations.FenceTakeOutcome : Prop :=
  ∀ (s : State) (p : Port), s.deviceReset = false → MarkerLaw s →
    let free : Prop := (∀ a, s.engine.current = some a → a.port ≠ p) ∧
      (s.buffer.markers.filter fun m => m.port == p).length < 4
    (∀ token rest, (s.ports.get p).queue = .fence token :: rest → free →
      ((∃ e ∈ s.buffer.entries, e.port = p) →
        exec (.fenceTake p) s = .next (State.onPort { s with
          buffer := { s.buffer with items := s.buffer.items ++ [.marker ⟨p, token⟩] } } p fun hp => { hp with queue := rest })) ∧
      ((∀ e ∈ s.buffer.entries, e.port ≠ p) →
        exec (.fenceTake p) s = .next (s.onPort p fun hp => ({ hp with queue := rest }).offer (.fenceDone token)))) ∧
    ((∀ token rest, (s.ports.get p).queue ≠ .fence token :: rest) ∨ ¬ free → exec (.fenceTake p) s = .next s)

/-! ### The channel and its completions -/

/-- The drain request stands: the oldest entry that is not VOID is OPEN or CLOSED, and one of the reasons of R121 holds. -/
def Sys2Proof.Claims.DrainRequest (s : State) : Prop :=
  ∃ (old young : List Entry) (e : Entry), s.buffer.entries = old ++ e :: young ∧ (∀ v ∈ old, v.state = .voided) ∧
    (e.state = .opened ∨ e.state = .closed) ∧
    (s.config.drainMark.toNat ≤ s.buffer.entries.length ∨ e.state = .closed ∨ s.buffer.markers ≠ [] ∨
      (∃ i w passed, (s.slot i).state = .draining w passed) ∨ s.engine.current = none)

/-- A grant event with the channel FREE serves the Composer first, then the engine read and the drain, alternately when both
stand, then the clear pass; the chosen requester takes the grant in the same event: the block leaves the fetch list, the engine
read is in flight, the drain head becomes WRITING with a full mask or FILLING with its underfill counted, and the alternation
record takes the one of the two served. With the channel BUSY or no request standing nothing changes
(R121, R122, R138, R139, R140). -/
def Obligations.GrantOutcome : Prop :=
  ∀ s : State, s.deviceReset = false →
    let composer : Prop := s.composer.fetchLine ≠ none ∧ s.composer.fetchList ≠ []
    let engineRead : Prop := ∃ r, s.buffer.engineRead = some r ∧ r.granted = false
    let drain : Prop := DrainRequest s
    (s.channel ≠ none → exec .grantEvent s = .next s) ∧
    (s.channel = none →
      (∀ y b rest, s.composer.fetchLine = some y → s.composer.fetchList = b :: rest → s.holdsBlock ⟨b.layer, y, b.column⟩ →
        exec .grantEvent s = .next { s with
          channel := some ⟨.blockRead, ⟨b.layer, y, b.column⟩, .composer⟩
          composer := { s.composer with fetchList := rest, inFlight := some ⟨b, y, false⟩ } }) ∧
      (¬ composer → engineRead → ¬ drain ∨ s.alternation = .drain →
        ∀ r, s.buffer.engineRead = some r → s.holdsBlock r.block → exec .grantEvent s = .next { s with
          channel := some ⟨.blockRead, r.block, .engineRead⟩
          buffer := { s.buffer with engineRead := some ⟨r.block, true⟩ }
          alternation := .engineRead }) ∧
      (¬ composer → drain → ¬ engineRead ∨ s.alternation = .engineRead →
        ∀ (old young : List AgeItem) (e : Entry), s.buffer.items = old ++ .entry e :: young →
          (∀ v ∈ old.filterMap AgeItem.entry?, v.state = .voided) → e.state ≠ .voided → s.holdsBlock e.block →
          ((∀ i : Fin 16, e.mask[i] = true) → exec .grantEvent s = .next { s with
            channel := some ⟨.blockWrite e.data, e.block, .drain⟩
            buffer := { s.buffer with items := old ++ .entry { e with state := .writing } :: young }
            alternation := .drain }) ∧
          ((∃ i : Fin 16, e.mask[i] = false) → exec .grantEvent s = .next { s with
            channel := some ⟨.blockRead, e.block, .drain⟩
            buffer := { s.buffer with
              items := old ++ .entry { e with state := .filling } :: young
              underfills := s.buffer.underfills + 1 }
            alternation := .drain })) ∧
      (¬ composer → ¬ engineRead → ¬ drain → s.globalState = .clearing →
        ∀ b, s.clearPosition = some b → s.holdsBlock b →
          exec .grantEvent s = .next { s with channel := some ⟨.blockWrite (Vector.replicate 16 0), b, .clear⟩ }) ∧
      (¬ composer → ¬ engineRead → ¬ drain → s.globalState ≠ .clearing → exec .grantEvent s = .next s))

/-- The completion of a read of memory: an engine read is delivered with the entries then present laid over the memory data, or
discarded when the engine holds no command; a Composer fetch is placed in the buffer of its line, or discarded when it was
dropped. The channel is FREE again, and nothing else changes (R119, R141, R150, R151). -/
def Obligations.ReadCompletions : Prop :=
  ∀ (s : State) (n : BlockName), s.deviceReset = false →
    (s.channel = some ⟨.blockRead, n, .engineRead⟩ →
      exec .engineReadDelivery s = .next { s with
        channel := none
        buffer := { s.buffer with engineRead := none }
        engine := match s.engine.current with
          | none => { s.engine with state := .idle, outstandingRead := false }
          | some a => { s.engine with
              state := .run, outstandingRead := false
              current := some (match a.position with
                | some q => a.takeBlock q (s.buffer.overlay n (s.readBlock n))
                | none => a) } }) ∧
    (s.channel = some ⟨.blockRead, n, .composer⟩ → ∀ f, s.composer.inFlight = some f →
      ∃ t, exec .fetchCompletion s = .next t ∧ t.channel = none ∧ t.composer.inFlight = none ∧
        (∀ y, y % 2 ≠ f.line % 2 → t.composer.lineBuffer y = s.composer.lineBuffer y) ∧
        t.composer.lineBuffer f.line = (if f.dropped then s.composer.lineBuffer f.line
          else { s.composer.lineBuffer f.line with
            blocks := (f.block, s.readBlock n) :: (s.composer.lineBuffer f.line).blocks }) ∧
        { t with channel := s.channel, composer := { t.composer with
          inFlight := s.composer.inFlight, buffer0 := s.composer.buffer0, buffer1 := s.composer.buffer1 } } = s)

/-- The completion of an underfill read: a FILLING entry becomes CLOSED with a full mask, the pixels outside its mask from
memory; a VOID one leaves, counted in VOIDED, with the effects of a departure (R123, R128). -/
def Sys2Proof.Claims.UnderfillOutcome : Prop :=
  ∀ (s : State) (n : BlockName) (old young : List AgeItem) (e : Entry), s.deviceReset = false →
    s.channel = some ⟨.blockRead, n, .drain⟩ → s.buffer.items = old ++ .entry e :: young →
    (∀ v ∈ old.filterMap AgeItem.entry?, v.state ≠ .filling ∧ v.state ≠ .voided) →
    (e.state = .filling → ∃ e' : Entry, exec .underfillCompletion s = .next { s with
        channel := none, buffer := { s.buffer with items := old ++ .entry e' :: young } } ∧
      e'.state = .closed ∧ { e' with state := e.state, mask := e.mask, data := e.data } = e ∧
      ∀ i : Fin 16, e'.mask[i] = true ∧ e'.data[i] = if e.mask[i] then e.data[i] else (s.readBlock n)[i]) ∧
    (e.state = .voided → exec .underfillCompletion s = .next (State.departed { s with
        channel := none, buffer := { s.buffer with items := old ++ young, voided := s.buffer.voided + 1 } } e))

/-- The completion of the drain's block write: memory holds the written block from then on and every other byte as before, and
the WRITING entry leaves with the effects of a departure (R124, R136). -/
def Sys2Proof.Claims.BlockWriteOutcome : Prop :=
  ∀ (s : State) (v : Block) (n : BlockName) (old young : List AgeItem) (e : Entry), s.deviceReset = false →
    s.channel = some ⟨.blockWrite v, n, .drain⟩ → s.buffer.items = old ++ .entry e :: young → e.state = .writing →
    (∀ o ∈ old.filterMap AgeItem.entry?, o.state ≠ .writing) →
    ∃ u : State, exec .blockWriteCompletion s = .next (u.departed e) ∧
      u.readBlock n = v ∧ SameOutside (s.addressOf n) s u ∧ (u.departed e).memory = u.memory ∧
      { u with memory := s.memory } = { s with channel := none, buffer := { s.buffer with items := old ++ young } }

/-- The completions of the drain's two accesses (R123, R124, R128, R136). -/
def Obligations.DrainCompletions : Prop := Claims.UnderfillOutcome ∧ Claims.BlockWriteOutcome


/-- The departure of an entry at a completion, once it is gone from the age order: its slot's outstanding count falls by one; a
DRAINING or REVOKED slot with frame_passed yes and nothing outstanding becomes FREE, a DRAINING one with WINDOW_FREED to its
owner; an engine in WAIT_BUFFER may post again; the markers of the entry's port that no older entry of the port precedes
complete in their order; and the wait list is evaluated when a slot became FREE. `u` is the state before that evaluation
(R28, R29, R54, R125, R130). -/
def Obligations.DepartureEffects : Prop :=
  ∀ (s : State) (e : Entry), ∃ u : State,
    let i := e.handle.slot
    let left := (s.slot i).outstanding - 1
    let frees : Prop := left = 0 ∧ ∃ w, (s.slot i).state = .draining w true ∨ (s.slot i).state = .revoked w true
    (frees → s.departed e = u.evaluateWaitList) ∧ (¬ frees → s.departed e = u) ∧
    (frees → u.slot i = ⟨.free, (s.slot i).generation, left⟩) ∧
    (¬ frees → u.slot i = { s.slot i with outstanding := left }) ∧
    (∀ j, j ≠ i → u.slot j = s.slot j) ∧
    u.engine = signalled s.engine ∧
    u.buffer.items = withoutCompleting e.port s.buffer.items ∧
    (∀ p, u.ports.get p = fenced (if p = e.port then completing e.port s.buffer.items else [])
      (match (s.slot i).state with
      | .draining w true => if left = 0 ∧ p = w.owner then
          (s.ports.get p).offer (.windowFreed ⟨i, (s.slot i).generation⟩) else s.ports.get p
      | _ => s.ports.get p)) ∧
    { u with table := s.table, engine := s.engine, ports := s.ports, buffer := { u.buffer with items := s.buffer.items } } = s

/-! ### The Composer -/

/-- The display list holds one item for each HELD window with SHOW that is visible, with its values, by layer from L3 down and
within a layer by slot number. The fetch list of a line holds each block of the line that an item of its layer meets, once, by
layer from L3 down and within a layer by block column (R33, R149). -/
def Obligations.DisplayAndFetchLists : Prop :=
  (∀ (s : State) (d : DisplayItem), d ∈ s.buildDisplayList ↔
    ∃ w, (s.slot d.slot).state = .held w ∧ w.rights.mayShow = true ∧ w.visible = true ∧
      d = ⟨d.slot, (s.slot d.slot).generation, w.layer, w.region, w.key⟩) ∧
  (∀ s : State, s.buildDisplayList.Pairwise fun c d => d.layer < c.layer ∨ (c.layer = d.layer ∧ c.slot < d.slot)) ∧
  (∀ (list : List DisplayItem) (w y : Nat) (b : LineBlock), (∀ d ∈ list, 1 ≤ d.region.width) →
    (b ∈ fetchListOf list w y ↔ b.column < w / 16 ∧ ∃ d ∈ list, d.layer = b.layer ∧
      ∃ x, x / 16 = b.column ∧ regionCovers d.region x y = true)) ∧
  (∀ (list : List DisplayItem) (w y : Nat),
    (fetchListOf list w y).Pairwise fun b c => c.layer < b.layer ∨ (b.layer = c.layer ∧ b.column < c.column))

/-- The generator's next event is FRAME_START (R146). -/
def Sys2Proof.Claims.FrameDue (s : State) : Prop :=
  s.composer.running = true ∧
    (s.composer.position = .initial ∨ s.composer.position = .trailing (s.config.vblank.toNat - 1) ∧ 1 ≤ s.config.vblank.toNat ∨
      s.composer.position = .visible (s.surfaceHeight - 1) ∧ 1 ≤ s.surfaceHeight ∧ s.config.vblank.toNat = 1)

/-- A frame start: after the Lease Manager's work, `v`, the Composer takes the display list of the table as it stood, the frame
number and FRAMES rise by one, underrun reported becomes no, the generator stands at LEAD, the fetch of line 0 begins into
buffer 0, buffer 1 is released if it serves line H − 1, and FRAME_STARTED is posted to every port. Only where the generator
comes to it is it taken (R34, R146, R148): that an event asked for out of turn changes nothing is log entry 1's choice. The pixels
sent, which no line has fixed at LEAD, are the model's own field (log entry 16). -/
def Obligations.FrameStartOutcome : Prop :=
  ∀ s : State, s.deviceReset = false →
    (FrameDue s → ∃ v : State, v = s.passFrame ∧ exec .frameStart s = .next { v with
      composer := { s.composer with
        position := .lead, sentLine := []
        frameNumber := s.composer.frameNumber + 1, frames := s.composer.frames + 1
        displayList := s.buildDisplayList, underrunReported := false
        fetchLine := some 0, fetchList := fetchListOf s.buildDisplayList s.surfaceWidth 0
        buffer0 := ⟨some 0, []⟩
        buffer1 := if s.composer.buffer1.serves = some (s.surfaceHeight - 1) then ⟨none, []⟩ else s.composer.buffer1 }
      ports :=
        let started : Notice := .frameStarted (s.composer.frameNumber + 1)
        ⟨v.ports.p0.offer started, v.ports.p1.offer started, v.ports.p2.offer started, v.ports.p3.offer started⟩ }) ∧
    (¬ FrameDue s → exec .frameStart s = .next s)

/-- The Lease Manager's work at a frame start: every DRAINING and REVOKED slot has frame_passed yes, those with nothing
outstanding become FREE, a DRAINING one with WINDOW_FREED to its owner, in slot order, and the wait list is evaluated once if a
slot became FREE. `u` is the state before that evaluation; nothing else changes (R29, R34). The order of several freeings of one
frame start, and so of their notices, is the model's choice (log entry 27). -/
def Obligations.FramePassFrees : Prop :=
  ∀ s : State, ∃ u : State,
    let frees (i : SlotNo) : Prop := (s.slot i).outstanding = 0 ∧
      ∃ w b, (s.slot i).state = .draining w b ∨ (s.slot i).state = .revoked w b
    ((∃ i, frees i) → s.passFrame = u.evaluateWaitList) ∧ ((∀ i, ¬ frees i) → s.passFrame = u) ∧
    (∀ i, frees i → u.slot i = ⟨.free, (s.slot i).generation, 0⟩) ∧
    (∀ i, ¬ frees i → u.slot i = { s.slot i with state := match (s.slot i).state with
      | .draining w _ => .draining w true
      | .revoked w _ => .revoked w true
      | other => other }) ∧
    (∀ p, u.ports.get p = ((List.finRange 32).filterMap fun i => match (s.slot i).state with
      | .draining w _ => if (s.slot i).outstanding = 0 ∧ w.owner = p then
          some (Notice.windowFreed ⟨i, (s.slot i).generation⟩) else none
      | _ => none).foldl (fun hp n => hp.offer n) (s.ports.get p)) ∧
    { u with table := s.table, ports := s.ports } = s

/-- A composed pixel: the topmost layer at which an item of the list covers the pixel, and whose pixel is not the key of the
first such item, gives its pixel; where no layer does, the pixel is BACKGROUND (R153). -/
def Obligations.ComposedPixel : Prop :=
  ∀ (list : List DisplayItem) (b : LineBuffer) (background : Pixel) (x y : Nat),
    let governs (layer : Layer) (d : DisplayItem) : Prop := ∃ before after, list = before ++ d :: after ∧ d.layer = layer ∧
      regionCovers d.region x y = true ∧ ∀ c ∈ before, c.layer = layer → regionCovers c.region x y = false
    let yields (layer : Layer) : Prop := ∃ d, governs layer d ∧ d.key ≠ some (b.pixel layer x)
    (∀ layer, yields layer → (∀ above, layer < above → ¬ yields above) →
      composePixel list b background x y = b.pixel layer x) ∧
    ((∀ layer, ¬ yields layer) → composePixel list b background x y = background)

/-- LINE_DUE(y), where the generator comes to it: the generator stands at VISIBLE(y), the buffer of line y − 1 is released, and the
next line's fetch begins into its buffer, or the fetch line becomes none after the last line. With the fetch of line y complete
the line sent is composed from its buffer; otherwise it is BACKGROUND, UNDERRUNS rises by one, the fetch list is emptied, a block
of the line in flight is marked dropped, and the first underrun of the frame is notified to every port (R146, R152, R154). That a
dropped block in flight leaves a fetch complete is log entry 10's inference from R151, and the pixels fixed for the line stand in the
model's own field (log entry 16). -/
def Sys2Proof.Claims.LineDueOutcome : Prop :=
  ∀ (s : State) (y : Nat), s.deviceReset = false → s.composer.running = true → y < s.surfaceHeight →
    (s.composer.position = .lead ∧ y = 0 ∨ ∃ z, s.composer.position = .visible z ∧ y = z + 1) →
    let complete : Prop := s.composer.fetchList = [] ∧ ∀ f, s.composer.inFlight = some f → f.line = y → f.dropped = true
    ∃ t, exec .lineDue s = .next t ∧ t.composer.position = .visible y ∧
      t.composer.sentLine.length = s.surfaceWidth ∧
      (∀ x, x < s.surfaceWidth → t.composer.sentLine[x]? = some (if complete then
        composePixel s.composer.displayList (s.composer.lineBuffer y) s.config.background x y else s.config.background)) ∧
      (y + 1 < s.surfaceHeight → t.composer.fetchLine = some (y + 1) ∧
        t.composer.fetchList = fetchListOf s.composer.displayList s.surfaceWidth (y + 1) ∧
        t.composer.lineBuffer (y + 1) = ⟨some (y + 1), []⟩) ∧
      (y + 1 = s.surfaceHeight → t.composer.fetchLine = none ∧ t.composer.fetchList = [] ∧
        (1 ≤ y → t.composer.lineBuffer (y + 1) =
          if (s.composer.lineBuffer (y + 1)).serves = some (y - 1) then ⟨none, []⟩ else s.composer.lineBuffer (y + 1))) ∧
      (∀ line, (s.composer.lineBuffer y).serves = some line → line ≠ y - 1 ∨ y = 0 →
        t.composer.lineBuffer y = s.composer.lineBuffer y) ∧
      t.composer.underruns = (if complete then s.composer.underruns else s.composer.underruns + 1) ∧
      t.composer.underrunReported = (if complete then s.composer.underrunReported else true) ∧
      t.composer.inFlight = (if complete then s.composer.inFlight else s.composer.inFlight.map fun f =>
        if f.line = y then { f with dropped := true } else f) ∧
      (∀ p, t.ports.get p = if complete ∨ s.composer.underrunReported = true then s.ports.get p
        else (s.ports.get p).offer (.underrun s.composer.frameNumber y)) ∧
      { t with ports := s.ports, composer := { t.composer with
          position := s.composer.position, sentLine := s.composer.sentLine, fetchLine := s.composer.fetchLine
          fetchList := s.composer.fetchList, buffer0 := s.composer.buffer0, buffer1 := s.composer.buffer1
          inFlight := s.composer.inFlight, underruns := s.composer.underruns
          underrunReported := s.composer.underrunReported } } = s

/-- The generator goes from line H − 1 through TRAILING(1) to TRAILING(VBLANK − 1), and a trailing blank line changes its position
and the pixels sent alone (R146, R147). -/
def Sys2Proof.Claims.TrailingBlankLines : Prop :=
  ∀ (s : State) (k : Nat), s.deviceReset = false → s.composer.running = true → k < s.config.vblank.toNat →
    (k = 1 ∧ s.composer.position = .visible (s.surfaceHeight - 1) ∧ 1 ≤ s.surfaceHeight ∨
      2 ≤ k ∧ s.composer.position = .trailing (k - 1)) →
    exec .trailingBlankLine s = .next { s with composer := { s.composer with position := .trailing k, sentLine := [] } }

/-- The panel output in the `n`-th pixel period of a line period: 0 with both syncs inactive while the Composer is OFF and in INITIAL;
in a visible line the pixels fixed for it and then 0, with line sync in the HBLANK periods; in LEAD and the trailing blank lines 0,
with line sync in the last HBLANK periods and frame sync throughout (R145, R147; the pixels in the model's own field, log
entry 16). -/
def Sys2Proof.Claims.PanelOutputs : Prop :=
  ∀ (s : State) (n : Nat),
    let lineSyncPeriod : Prop := s.config.width.toNat ≤ n ∧ n < s.config.width.toNat + s.config.hblank.toNat
    let blank : Prop := s.composer.running = false ∨ s.composer.position = .initial
    (blank → s.panelPixel n = 0 ∧ s.lineSync n = false ∧ s.frameSync = false) ∧
    (¬ blank → (s.lineSync n = true ↔ lineSyncPeriod)) ∧
    (¬ blank → (∃ y, s.composer.position = .visible y) → s.frameSync = false ∧
      (n < s.config.width.toNat → ∀ v, s.composer.sentLine[n]? = some v → s.panelPixel n = v) ∧
      (s.config.width.toNat ≤ n → s.panelPixel n = 0)) ∧
    (¬ blank → (s.composer.position = .lead ∨ ∃ k, s.composer.position = .trailing k) →
      s.frameSync = true ∧ s.panelPixel n = 0)

/-- The generator's line events, LINE_DUE of each visible line and the beginning of each trailing blank line, and the panel output
over the periods between them (R145, R146, R147, R152, R154). -/
def Obligations.LinesOfAFrame : Prop := Claims.LineDueOutcome ∧ Claims.TrailingBlankLines ∧ Claims.PanelOutputs


/-! ### Host ports -/

/-- The engine after an accepted push or pop of port `p`: the data timer restarts at DATA_TIMEOUT where the engine waits for it
(R103). -/
def Sys2Proof.Claims.TimerRestarted (s t : State) (p : Port) (waiting : EngineState) : Prop :=
  (∀ a, s.engine.state = waiting → s.engine.current = some a → a.port = p →
    t.engine = { s.engine with current := some { a with dataTimer := some s.config.dataTimeout.toNat } }) ∧
  (s.engine.state ≠ waiting ∨ (∀ a, s.engine.current = some a → a.port ≠ p) → t.engine = s.engine)

/-- A push joins an upload FIFO of fewer than 32 words as the youngest, and one into a full FIFO is dropped with FIFO_FULL; a pop
returns and removes the oldest word of the readback FIFO, and one of an empty FIFO returns 0 with FIFO_EMPTY. An accepted one
restarts the data timer of an engine waiting for it. Nothing else changes but the word last returned, the model's own field
(R103, R168, R169, log entry 6). -/
def Obligations.PixelFifoAccesses : Prop :=
  ∀ (p : Port) (w : Word) (s : State), s.takes p →
    ((s.ports.get p).upload.length < 32 → ∃ t, exec (.uploadPush p w) s = .next t ∧ TimerRestarted s t p .waitData ∧
      { t with engine := s.engine } = s.onPort p fun hp => { hp with upload := hp.upload ++ [w] }) ∧
    (32 ≤ (s.ports.get p).upload.length →
      exec (.uploadPush p w) s = .next (s.onPort p fun hp => { hp with accessError := .fifoFull })) ∧
    (∀ v rest, (s.ports.get p).readback = v :: rest → ∃ t, exec (.readbackPop p) s = .next t ∧
      TimerRestarted s t p .waitRoom ∧
      { t with engine := s.engine } = s.onPort p fun hp => { hp with readback := rest, readData := v }) ∧
    ((s.ports.get p).readback = [] →
      exec (.readbackPop p) s = .next (s.onPort p fun hp => { hp with accessError := .fifoEmpty, readData := 0 }))

/-- A posting: a disabled kind is turned away, an enabled one joins the young end of a queue of fewer than 16 notices, and one at a
full queue is dropped. The loss count rises by one at each notice dropped for want of room and stays at 255; a read of
LOSS_COUNT returns the value and sets the count to 0, the word returned standing in the model's own field (log entry 6); the count is
0 after device reset and after a detach of the port, by a DETACH write or by the assertion of its reset pin, whose level the command
carries (log entry 9); and the interrupt line does not follow it (R173, R175, R177, R178). -/
def Obligations.LossCountRule : Prop :=
  (∀ (s : State) (p : Port) (n : Notice),
    let hp := s.ports.get p
    s.post p n = s.onPort p fun _ =>
      if hp.noticeEnable.getLsbD (kindNumber n) = false then hp
      else if hp.notices.length < 16 then { hp with notices := hp.notices ++ [n] }
      else { hp with lossCount := if 255 ≤ hp.lossCount then 255 else hp.lossCount + 1 }) ∧
  (∀ (s : State) (p : Port), s.takes p → (s.ports.get p).lossCount ≤ 255 → ∃ t, exec (.lossCount p) s = .next t ∧
    t = s.onPort p (fun hp => { hp with lossCount := 0, readData := (readValue s p 0x74) }) ∧
    (readValue s p 0x74).toNat = (s.ports.get p).lossCount) ∧
  (∀ (s t : State) (p : Port), exec .deviceReset s = .next t → (t.ports.get p).lossCount = 0) ∧
  (∀ (c : Instr) (s t : State) (p : Port), (s.ports.get p).resetPin = .released → s.deviceReset = false →
    c = .detach p false ∨ c = .detach p true ∨ c = .portReset p .asserted → exec c s = .next t →
    (t.ports.get p).lossCount = 0) ∧
  (∀ (s : State) (p q : Port) (n : Nat),
    (s.onPort p fun hp => { hp with lossCount := n }).interruptLine q = s.interruptLine q)

/-- The reads that act: NOTICE_WORD1 returns field B of the head notice, which leaves the queue, or 0 when there is none, while
NOTICE_WORD0 shows its kind and field A; ACCESS_ERROR returns the code and clears it; every field carries the numbers of R176 and R189.
Nothing else changes but the word last returned, the model's own field (R161, R170, R176, R179, R189, log entry 6). -/
def Obligations.ActingReads : Prop :=
  ∀ (p : Port) (s : State), s.takes p →
    (∀ n rest, (s.ports.get p).notices = n :: rest → ∃ v : Word,
      exec (.noticeWord1 p) s = .next (s.onPort p fun hp => { hp with notices := rest, readData := v }) ∧
      v = readValue s p 0x64 ∧ v.toNat = fieldBNumber n + 65536 * spansNumber n ∧
      (readValue s p 0x60).toNat = kindNumber n + 65536 * fieldANumber n) ∧
    ((s.ports.get p).notices = [] → readValue s p 0x60 = 0 ∧
      exec (.noticeWord1 p) s = .next (s.onPort p fun hp => { hp with readData := 0 })) ∧
    (∃ v : Word, exec (.accessError p) s = .next (s.onPort p fun hp => { hp with accessError := .none, readData := v }) ∧
      v = readValue s p 0x70 ∧ v.toNat = accessErrorNumber (s.ports.get p).accessError)

/-- INT_ENABLE stores bit 0 and NOTICE_ENABLE one flag for each kind of R176; both read back what they hold, and the port's
interrupt line is asserted exactly while INT_ENABLE is on and a notice is queued (R172, R173, R181). -/
def Obligations.EnablesAndInterruptLine : Prop :=
  ∀ (p : Port) (w : Word) (s : State), s.takes p →
    (∃ t, exec (.intEnable p w) s = .next t ∧ t = s.onPort p (fun hp => { hp with intEnable := w.getLsbD 0 }) ∧
      readValue t p 0x80 = (if w.getLsbD 0 then 1 else 0) ∧
      (t.interruptLine p = true ↔ w.getLsbD 0 = true ∧ (s.ports.get p).notices ≠ [])) ∧
    (∃ t m, exec (.noticeEnable p w) s = .next t ∧ t = s.onPort p (fun hp => { hp with noticeEnable := m }) ∧
      (∀ k, m.getLsbD k = (w.getLsbD k && decide (k < 14 ∧ k ≠ 0 ∧ k ≠ 3))) ∧
      readValue t p 0x84 = w &&& 0x3FF6 ∧
      ∀ n : Notice, noticeEnabled m n = w.getLsbD (kindNumber n))

/-- The bits that a storage register of the staging groups holds (section 12.3, section 12.4). -/
def Sys2Proof.Claims.stagingMask (offset : Nat) : Option Word :=
  match offset with
  | 0x00 => some 0x0000FF3F
  | 0x04 => some 0x0FFF0FFF
  | 0x08 => some 0x0FFF0FFF
  | 0x0C => some 0xFFFF000F
  | 0x10 => some 0x0000FFFF
  | 0x14 => some 0xFFFFFFFF
  | 0x18 => some 0xFFFFFFFF
  | 0x1C => some 0xFFFFFFFF
  | 0x20 => some 0x00010F0F
  | 0x24 => some 0x0000FF3F
  | 0x28 => some 0x0FFF0FFF
  | 0x2C => some 0x0001FFFF
  | 0x38 => some 0x00000707
  | 0x3C => some 0x0FFF0FFF
  | 0x40 => some 0x0FFF0FFF
  | 0x44 => some 0x0101FFFF
  | 0x48 => some 0x0003FFFF
  | _ => none

/-- A write to a staging register stores the bits that its fields hold, a read returns them with 0 elsewhere, and no other register
of any port reads otherwise than before; a write to a register that takes none, or to CONTROL with both flags clear, changes
nothing (R162, R164, R166, R172, R188). -/
def Sys2Proof.Claims.RegisterWriteOutcome : Prop :=
  ∀ (p : Port) (offset : BitVec 8) (w : Word) (s : State), s.takes p → WellFormed (.registerWrite p offset w) = true →
    (∀ m, stagingMask offset.toNat = some m → ∃ t, exec (.registerWrite p offset w) s = .next t ∧
      readValue t p offset = w &&& m ∧
      (∀ q o, q ≠ p ∨ o ≠ offset → readValue t q o = readValue s q o) ∧
      ∃ hp : HostPort, t = s.onPort p (fun _ => hp) ∧
        { hp with command := (s.ports.get p).command, lease := (s.ports.get p).lease } = s.ports.get p) ∧
    (stagingMask offset.toNat = none → exec (.registerWrite p offset w) s = .next s)

/-- A narrow access at any offset, and an access at an offset that holds no register, sets BAD_OFFSET and changes nothing else; the
reads among them return 0, kept in the model's own field (log entry 6). The offsets that hold a register are the multiples of 4 up to
0xAC and from 0xC0 on (R162, R187); that an access at an offset that is no multiple of 4 is one of these is log entry 20's
inference. -/
def Sys2Proof.Claims.BadOffsetOutcome : Prop :=
  (∀ (p : Port) (access : BadAccess) (s : State), s.takes p → WellFormed (.badOffset p access) = true →
    exec (.badOffset p access) s = .next (s.onPort p fun hp => { hp with
      accessError := .badOffset
      readData := match access with
        | .narrowRead _ => 0
        | .unmappedRead _ => 0
        | _ => hp.readData })) ∧
  (∀ offset : BitVec 8, (registerAt offset).isSome = true ↔
    4 ∣ offset.toNat ∧ (offset.toNat ≤ 0xAC ∨ 0xC0 ≤ offset.toNat))

/-- Register writes that raise no event of their own, and the accesses that are ignored with BAD_OFFSET (R162, R188). -/
def Obligations.RegisterWritesAndBadOffsets : Prop := Claims.RegisterWriteOutcome ∧ Claims.BadOffsetOutcome


/-- The detach events of port `p`: a DETACH that is taken, with ABORT or without, and the assertion of its released reset pin while the
device reset pin is not asserted (R174). -/
def Sys2Proof.Claims.Detaches (c : Instr) (p : Port) (s : State) : Prop :=
  (s.takes p ∧ ∃ b, c = .detach p b) ∨
    (s.deviceReset = false ∧ (s.ports.get p).resetPin = .released ∧ c = .portReset p .asserted)

/-- A detach up to its evaluation of the wait list, `u` being the state before that. The port's request leaves the wait list, the others
keeping their order; its lease slot, skip count and Host Port Unit take their reset values; its markers leave the age order; each of
its HELD and DRAINING windows becomes REVOKED, with frame_passed no from HELD and kept from DRAINING, or FREE where R29's condition then
holds; their OPEN and CLOSED entries leave and are counted in VOIDED and outstanding, a FILLING one becomes VOID, and an engine in
WAIT_BUFFER with another port's command is signalled where one left; a command of the port in the engine ends without a notice. Every
other slot, lease slot, marker, entry and Host Port Unit, and the rest of the part, is as it was. The wait list is evaluated exactly
when the port owned a HELD or DRAINING window (R24, R25, R29, R54, R63, R81, R108, R125, R127, R134, R174, R175). -/
def Sys2Proof.Claims.DetachBeforeEvaluation : Prop :=
  ∀ (c : Instr) (p : Port) (s : State), Detaches c p s →
    let owned (i : SlotNo) : Bool := (s.slot i).live.any fun w => w.owner == p
    let ofOwned (e : Entry) : Bool := owned e.handle.slot && e.handle.generation == (s.slot e.handle.slot).generation
    let gone (e : Entry) : Bool := ofOwned e && (e.state == .opened || e.state == .closed)
    let void (e : Entry) : Entry := if ofOwned e && e.state == .filling then { e with state := .voided } else e
    let left (i : SlotNo) : Nat := (s.slot i).outstanding -
      s.buffer.entries.countP fun e => e.handle.slot == i && gone e
    ∃ u t : State, exec c s = .next t ∧
      t = ((if 0 < s.windowCount p then u.evaluateWaitList else u).onPort p fun hp =>
        { hp with resetPin := if c = .portReset p .asserted then .asserted else hp.resetPin }) ∧
      u.waitList = s.waitList.erase p ∧
      (∀ q, u.leaseSlots.get q = if q = p then ⟨none, ⟨.none, .none, none⟩⟩ else s.leaseSlots.get q) ∧
      (∀ q, u.skips.get q = if q = p then 0 else s.skips.get q) ∧
      (∀ q, u.ports.get q = if q = p then { HostPort.reset with resetPin := .released } else s.ports.get q) ∧
      u.buffer.items = ((s.buffer.items.filter fun it =>
        !(it.marker?.any fun m => m.port == p) && !(it.entry?.any gone)).map (AgeItem.onEntry void)) ∧
      u.buffer.voided = s.buffer.voided + BitVec.ofNat 32 (s.buffer.entries.countP gone) ∧
      (∀ i, owned i = false → u.slot i = s.slot i) ∧
      (∀ i w passed, owned i = true →
        (s.slot i).state = .held w ∧ passed = false ∨ (s.slot i).state = .draining w passed →
        u.slot i = ⟨if passed ∧ left i = 0 then .free else .revoked w passed, (s.slot i).generation, left i⟩) ∧
      u.engine = (if s.engine.current.any fun a => a.port == p then released s.engine
        else if s.buffer.entries.countP gone = 0 then s.engine else signalled s.engine) ∧
      { u with waitList := s.waitList, leaseSlots := s.leaseSlots, skips := s.skips, ports := s.ports, table := s.table
               engine := s.engine
               buffer := { u.buffer with items := s.buffer.items, voided := s.buffer.voided } } = s

/-- What a detach leaves once the wait list is evaluated: the port's Host Port Unit and lease slot at their reset values, its skip count
0, and no HELD or DRAINING window, marker, waiting request or engine command of it; the configuration, the global state, the Composer,
memory, the channel, the arbiter's pointer and the other ports' queues, FIFOs and enables as they were
(R25, R63, R81, R108, R134, R174, R175). -/
def Sys2Proof.Claims.DetachAfterEvaluation : Prop :=
  ∀ (c : Instr) (p : Port) (s : State), Detaches c p s →
    ∃ t, exec c s = .next t ∧
      t.ports.get p = { HostPort.reset with resetPin := if c = .portReset p .asserted then .asserted else .released } ∧
      t.leaseSlots.get p = ⟨none, ⟨.none, .none, none⟩⟩ ∧ t.skips.get p = 0 ∧
      (p ∉ t.waitList ∨ ¬ s.waitList.Nodup) ∧ (∀ i w, (t.slot i).live = some w → w.owner ≠ p) ∧
      t.buffer.markersOf p = [] ∧
      (∀ e ∈ t.buffer.entries, ∀ w, (s.slot e.handle.slot).live = some w → w.owner = p →
        (s.slot e.handle.slot).generation = e.handle.generation → e.state = .writing ∨ e.state = .voided) ∧
      (∀ a, s.engine.current = some a → a.port = p → t.engine = released s.engine) ∧
      ((∀ a, s.engine.current = some a → a.port ≠ p) →
        { t.engine with retryPost := s.engine.retryPost } = s.engine) ∧
      (∀ q, q ≠ p → (t.ports.get q).quiet = (s.ports.get q).quiet ∧ t.skips.get q = s.skips.get q) ∧
      t.config = s.config ∧ t.globalState = s.globalState ∧ t.composer = s.composer ∧ t.memory = s.memory ∧
      t.channel = s.channel ∧ t.pointer = s.pointer ∧ t.alternation = s.alternation ∧
      t.clearPosition = s.clearPosition ∧ t.precedence = s.precedence

/-- The release of the reset pin is an event for nothing but the pin, and so is its assertion while the device reset pin is asserted
(R163, R174; that the command carries the pin's level is log entry 9). -/
def Sys2Proof.Claims.PinAlone : Prop :=
  ∀ (p : Port) (s : State),
    exec (.portReset p .released) s = .next (s.onPort p fun hp => { hp with resetPin := .released }) ∧
    (s.deviceReset = true →
      exec (.portReset p .asserted) s = .next (s.onPort p fun hp => { hp with resetPin := .asserted }))

/-- What a detach of a port leaves of the port and of the rest, before and after its evaluation of the wait list, and the reset pin
alone (R25, R63, R81, R108, R134, R163, R174, R175, log entry 9). -/
def Obligations.DetachOutcome : Prop := Claims.DetachBeforeEvaluation ∧ Claims.DetachAfterEvaluation ∧ Claims.PinAlone

/-! ### What every step keeps -/

/-- Every step keeps every queue, FIFO, count and buffer within its capacity, surface memory in its canonical form, and the frame
number equal to FRAMES modulo 65536 (R70, R72, R82, R112, R129, R158, R168, R169, R177, R178). -/
def Obligations.CapacitiesKept : Prop :=
  ∀ s t : State, Capacities s → RecordLaws s → step s = .next t → Capacities t ∧ RecordLaws t

/-- The buffer holds at most 64 entries, and for each block at most one entry is OPEN, with no younger entry for the block: every
step keeps both. -/
def Obligations.PendingWriteBufferLaw : Prop :=
  ∀ s t : State, s.buffer.entries.length ≤ 64 → OpenLaw s → step s = .next t →
    t.buffer.entries.length ≤ 64 ∧ OpenLaw t

/-- Every step keeps, for every slot, outstanding equal to the entries that carry its number and current generation, and no entry with
another generation; every entry under a window of its port that is HELD or DRAINING unless the entry is WRITING or VOID; and every
marker behind an older entry of its port (R26, R110, R122, R130). -/
def Obligations.BufferLawsKept : Prop :=
  ∀ s t : State, BufferLaws s → step s = .next t → BufferLaws t

/-- Every step keeps the port quotas, the exclusion of overlapping windows of different ports, the wait list's order and its agreement
with the lease slots, and the emptiness of the table in SETUP (R31, R32, R36, R53). -/
def Obligations.LeaseLawsKept : Prop :=
  ∀ s t : State, LeaseLaws s → step s = .next t → LeaseLaws t

/-- From a state whose windows, requests, entries and accesses lie inside the surface, every step answers a next state and keeps them
there: the channel never names a block outside the surface, and no command faults (R18, R86, R137). -/
def Obligations.NoStepFaults : Prop :=
  ∀ s : State, SurfaceLaws s → ∃ t, step s = .next t ∧ SurfaceLaws t

/-- The part right after reset, with the straps and pins that log entry 2 chooses, meets every law above. -/
def Obligations.LawsHoldAtReset : Prop :=
  Capacities State.reset ∧ RecordLaws State.reset ∧ OpenLaw State.reset ∧ BufferLaws State.reset ∧ LeaseLaws State.reset ∧
    SurfaceLaws State.reset
end

