-- ==== Sys2Proof/Laws/State.lean ====
section
/-! SUPPORT. The small lemmas of the state and of its named updates: one for each field and each update, true by
definition, so that no proof unfolds a record update. -/

namespace Sys2Proof

/-! ### One value for each port -/

@[simp] theorem PerPort.get_const {α : Type} (v : α) (p : Port) : (PerPort.const v).get p = v := by cases p <;> rfl

@[simp] theorem PerPort.get_set_self {α : Type} (q : PerPort α) (p : Port) (v : α) : (q.set p v).get p = v := by
  cases p <;> rfl

theorem PerPort.get_set_of_ne {α : Type} (q : PerPort α) {p r : Port} (v : α) (h : r ≠ p) :
    (q.set p v).get r = q.get r := by
  cases p <;> cases r <;> first | rfl | exact absurd rfl h

theorem PerPort.get_set {α : Type} (q : PerPort α) (p r : Port) (v : α) :
    (q.set p v).get r = if r = p then v else q.get r := by
  split
  · subst_vars; exact PerPort.get_set_self q _ v
  · exact PerPort.get_set_of_ne q v ‹_›

@[simp] theorem PerPort.set_set {α : Type} (q : PerPort α) (p : Port) (v w : α) : (q.set p v).set p w = q.set p w := by
  cases p <;> rfl

@[simp] theorem PerPort.set_get {α : Type} (q : PerPort α) (p : Port) : q.set p (q.get p) = q := by cases p <;> rfl

theorem PerPort.ext_get {α : Type} {q r : PerPort α} (h : ∀ p, q.get p = r.get p) : q = r := by
  cases q; cases r
  have h0 := h .p0; have h1 := h .p1; have h2 := h .p2; have h3 := h .p3
  simp only [PerPort.get] at h0 h1 h2 h3
  subst h0 h1 h2 h3; rfl

theorem Port.mem_all (p : Port) : p ∈ Port.all := by cases p <;> decide

end Sys2Proof

namespace Sys2Proof.Machine

/-! ### What an update leaves -/


@[simp] theorem State.onPort_deviceReset (s : State) (p : Port) (f : HostPort → HostPort) :
    (s.onPort p f).deviceReset = s.deviceReset := rfl
@[simp] theorem State.onPort_globalState (s : State) (p : Port) (f : HostPort → HostPort) :
    (s.onPort p f).globalState = s.globalState := rfl
@[simp] theorem State.onPort_config (s : State) (p : Port) (f : HostPort → HostPort) :
    (s.onPort p f).config = s.config := rfl
@[simp] theorem State.onPort_commitResult (s : State) (p : Port) (f : HostPort → HostPort) :
    (s.onPort p f).commitResult = s.commitResult := rfl
@[simp] theorem State.onPort_memorySize (s : State) (p : Port) (f : HostPort → HostPort) :
    (s.onPort p f).memorySize = s.memorySize := rfl
@[simp] theorem State.onPort_precedence (s : State) (p : Port) (f : HostPort → HostPort) :
    (s.onPort p f).precedence = s.precedence := rfl
@[simp] theorem State.onPort_clearPosition (s : State) (p : Port) (f : HostPort → HostPort) :
    (s.onPort p f).clearPosition = s.clearPosition := rfl
@[simp] theorem State.onPort_table (s : State) (p : Port) (f : HostPort → HostPort) :
    (s.onPort p f).table = s.table := rfl
@[simp] theorem State.onPort_leaseSlots (s : State) (p : Port) (f : HostPort → HostPort) :
    (s.onPort p f).leaseSlots = s.leaseSlots := rfl
@[simp] theorem State.onPort_waitList (s : State) (p : Port) (f : HostPort → HostPort) :
    (s.onPort p f).waitList = s.waitList := rfl
@[simp] theorem State.onPort_parkings (s : State) (p : Port) (f : HostPort → HostPort) :
    (s.onPort p f).parkings = s.parkings := rfl
@[simp] theorem State.onPort_pointer (s : State) (p : Port) (f : HostPort → HostPort) :
    (s.onPort p f).pointer = s.pointer := rfl
@[simp] theorem State.onPort_skips (s : State) (p : Port) (f : HostPort → HostPort) :
    (s.onPort p f).skips = s.skips := rfl
@[simp] theorem State.onPort_engine (s : State) (p : Port) (f : HostPort → HostPort) :
    (s.onPort p f).engine = s.engine := rfl
@[simp] theorem State.onPort_buffer (s : State) (p : Port) (f : HostPort → HostPort) :
    (s.onPort p f).buffer = s.buffer := rfl
@[simp] theorem State.onPort_channel (s : State) (p : Port) (f : HostPort → HostPort) :
    (s.onPort p f).channel = s.channel := rfl
@[simp] theorem State.onPort_alternation (s : State) (p : Port) (f : HostPort → HostPort) :
    (s.onPort p f).alternation = s.alternation := rfl
@[simp] theorem State.onPort_composer (s : State) (p : Port) (f : HostPort → HostPort) :
    (s.onPort p f).composer = s.composer := rfl
@[simp] theorem State.onPort_memory (s : State) (p : Port) (f : HostPort → HostPort) :
    (s.onPort p f).memory = s.memory := rfl
@[simp] theorem State.onPort_freeCount (s : State) (p : Port) (f : HostPort → HostPort) :
    (s.onPort p f).freeCount = s.freeCount := rfl
@[simp] theorem State.onPort_pending (s : State) (p : Port) (f : HostPort → HostPort) :
    (s.onPort p f).pending = s.pending := rfl

@[simp] theorem State.onLease_deviceReset (s : State) (p : Port) (f : LeaseSlot → LeaseSlot) :
    (s.onLease p f).deviceReset = s.deviceReset := rfl
@[simp] theorem State.onLease_globalState (s : State) (p : Port) (f : LeaseSlot → LeaseSlot) :
    (s.onLease p f).globalState = s.globalState := rfl
@[simp] theorem State.onLease_config (s : State) (p : Port) (f : LeaseSlot → LeaseSlot) :
    (s.onLease p f).config = s.config := rfl
@[simp] theorem State.onLease_commitResult (s : State) (p : Port) (f : LeaseSlot → LeaseSlot) :
    (s.onLease p f).commitResult = s.commitResult := rfl
@[simp] theorem State.onLease_memorySize (s : State) (p : Port) (f : LeaseSlot → LeaseSlot) :
    (s.onLease p f).memorySize = s.memorySize := rfl
@[simp] theorem State.onLease_precedence (s : State) (p : Port) (f : LeaseSlot → LeaseSlot) :
    (s.onLease p f).precedence = s.precedence := rfl
@[simp] theorem State.onLease_clearPosition (s : State) (p : Port) (f : LeaseSlot → LeaseSlot) :
    (s.onLease p f).clearPosition = s.clearPosition := rfl
@[simp] theorem State.onLease_table (s : State) (p : Port) (f : LeaseSlot → LeaseSlot) :
    (s.onLease p f).table = s.table := rfl
@[simp] theorem State.onLease_waitList (s : State) (p : Port) (f : LeaseSlot → LeaseSlot) :
    (s.onLease p f).waitList = s.waitList := rfl
@[simp] theorem State.onLease_parkings (s : State) (p : Port) (f : LeaseSlot → LeaseSlot) :
    (s.onLease p f).parkings = s.parkings := rfl
@[simp] theorem State.onLease_ports (s : State) (p : Port) (f : LeaseSlot → LeaseSlot) :
    (s.onLease p f).ports = s.ports := rfl
@[simp] theorem State.onLease_pointer (s : State) (p : Port) (f : LeaseSlot → LeaseSlot) :
    (s.onLease p f).pointer = s.pointer := rfl
@[simp] theorem State.onLease_skips (s : State) (p : Port) (f : LeaseSlot → LeaseSlot) :
    (s.onLease p f).skips = s.skips := rfl
@[simp] theorem State.onLease_engine (s : State) (p : Port) (f : LeaseSlot → LeaseSlot) :
    (s.onLease p f).engine = s.engine := rfl
@[simp] theorem State.onLease_buffer (s : State) (p : Port) (f : LeaseSlot → LeaseSlot) :
    (s.onLease p f).buffer = s.buffer := rfl
@[simp] theorem State.onLease_channel (s : State) (p : Port) (f : LeaseSlot → LeaseSlot) :
    (s.onLease p f).channel = s.channel := rfl
@[simp] theorem State.onLease_alternation (s : State) (p : Port) (f : LeaseSlot → LeaseSlot) :
    (s.onLease p f).alternation = s.alternation := rfl
@[simp] theorem State.onLease_composer (s : State) (p : Port) (f : LeaseSlot → LeaseSlot) :
    (s.onLease p f).composer = s.composer := rfl
@[simp] theorem State.onLease_memory (s : State) (p : Port) (f : LeaseSlot → LeaseSlot) :
    (s.onLease p f).memory = s.memory := rfl
@[simp] theorem State.onLease_freeCount (s : State) (p : Port) (f : LeaseSlot → LeaseSlot) :
    (s.onLease p f).freeCount = s.freeCount := rfl
@[simp] theorem State.onLease_pending (s : State) (p : Port) (f : LeaseSlot → LeaseSlot) :
    (s.onLease p f).pending = s.pending := rfl

@[simp] theorem State.onSlot_deviceReset (s : State) (i : SlotNo) (f : Slot → Slot) :
    (s.onSlot i f).deviceReset = s.deviceReset := rfl
@[simp] theorem State.onSlot_globalState (s : State) (i : SlotNo) (f : Slot → Slot) :
    (s.onSlot i f).globalState = s.globalState := rfl
@[simp] theorem State.onSlot_config (s : State) (i : SlotNo) (f : Slot → Slot) :
    (s.onSlot i f).config = s.config := rfl
@[simp] theorem State.onSlot_commitResult (s : State) (i : SlotNo) (f : Slot → Slot) :
    (s.onSlot i f).commitResult = s.commitResult := rfl
@[simp] theorem State.onSlot_memorySize (s : State) (i : SlotNo) (f : Slot → Slot) :
    (s.onSlot i f).memorySize = s.memorySize := rfl
@[simp] theorem State.onSlot_precedence (s : State) (i : SlotNo) (f : Slot → Slot) :
    (s.onSlot i f).precedence = s.precedence := rfl
@[simp] theorem State.onSlot_clearPosition (s : State) (i : SlotNo) (f : Slot → Slot) :
    (s.onSlot i f).clearPosition = s.clearPosition := rfl
@[simp] theorem State.onSlot_leaseSlots (s : State) (i : SlotNo) (f : Slot → Slot) :
    (s.onSlot i f).leaseSlots = s.leaseSlots := rfl
@[simp] theorem State.onSlot_waitList (s : State) (i : SlotNo) (f : Slot → Slot) :
    (s.onSlot i f).waitList = s.waitList := rfl
@[simp] theorem State.onSlot_parkings (s : State) (i : SlotNo) (f : Slot → Slot) :
    (s.onSlot i f).parkings = s.parkings := rfl
@[simp] theorem State.onSlot_ports (s : State) (i : SlotNo) (f : Slot → Slot) : (s.onSlot i f).ports = s.ports := rfl
@[simp] theorem State.onSlot_pointer (s : State) (i : SlotNo) (f : Slot → Slot) :
    (s.onSlot i f).pointer = s.pointer := rfl
@[simp] theorem State.onSlot_skips (s : State) (i : SlotNo) (f : Slot → Slot) : (s.onSlot i f).skips = s.skips := rfl
@[simp] theorem State.onSlot_engine (s : State) (i : SlotNo) (f : Slot → Slot) :
    (s.onSlot i f).engine = s.engine := rfl
@[simp] theorem State.onSlot_buffer (s : State) (i : SlotNo) (f : Slot → Slot) :
    (s.onSlot i f).buffer = s.buffer := rfl
@[simp] theorem State.onSlot_channel (s : State) (i : SlotNo) (f : Slot → Slot) :
    (s.onSlot i f).channel = s.channel := rfl
@[simp] theorem State.onSlot_alternation (s : State) (i : SlotNo) (f : Slot → Slot) :
    (s.onSlot i f).alternation = s.alternation := rfl
@[simp] theorem State.onSlot_composer (s : State) (i : SlotNo) (f : Slot → Slot) :
    (s.onSlot i f).composer = s.composer := rfl
@[simp] theorem State.onSlot_memory (s : State) (i : SlotNo) (f : Slot → Slot) :
    (s.onSlot i f).memory = s.memory := rfl
@[simp] theorem State.onSlot_freeCount (s : State) (i : SlotNo) (f : Slot → Slot) :
    (s.onSlot i f).freeCount = s.freeCount := rfl
@[simp] theorem State.onSlot_pending (s : State) (i : SlotNo) (f : Slot → Slot) :
    (s.onSlot i f).pending = s.pending := rfl

@[simp] theorem State.onBuffer_deviceReset (s : State) (f : Buffer → Buffer) :
    (s.onBuffer f).deviceReset = s.deviceReset := rfl
@[simp] theorem State.onBuffer_globalState (s : State) (f : Buffer → Buffer) :
    (s.onBuffer f).globalState = s.globalState := rfl
@[simp] theorem State.onBuffer_config (s : State) (f : Buffer → Buffer) : (s.onBuffer f).config = s.config := rfl
@[simp] theorem State.onBuffer_commitResult (s : State) (f : Buffer → Buffer) :
    (s.onBuffer f).commitResult = s.commitResult := rfl
@[simp] theorem State.onBuffer_memorySize (s : State) (f : Buffer → Buffer) :
    (s.onBuffer f).memorySize = s.memorySize := rfl
@[simp] theorem State.onBuffer_precedence (s : State) (f : Buffer → Buffer) :
    (s.onBuffer f).precedence = s.precedence := rfl
@[simp] theorem State.onBuffer_clearPosition (s : State) (f : Buffer → Buffer) :
    (s.onBuffer f).clearPosition = s.clearPosition := rfl
@[simp] theorem State.onBuffer_table (s : State) (f : Buffer → Buffer) : (s.onBuffer f).table = s.table := rfl
@[simp] theorem State.onBuffer_leaseSlots (s : State) (f : Buffer → Buffer) :
    (s.onBuffer f).leaseSlots = s.leaseSlots := rfl
@[simp] theorem State.onBuffer_waitList (s : State) (f : Buffer → Buffer) :
    (s.onBuffer f).waitList = s.waitList := rfl
@[simp] theorem State.onBuffer_parkings (s : State) (f : Buffer → Buffer) :
    (s.onBuffer f).parkings = s.parkings := rfl
@[simp] theorem State.onBuffer_ports (s : State) (f : Buffer → Buffer) : (s.onBuffer f).ports = s.ports := rfl
@[simp] theorem State.onBuffer_pointer (s : State) (f : Buffer → Buffer) : (s.onBuffer f).pointer = s.pointer := rfl
@[simp] theorem State.onBuffer_skips (s : State) (f : Buffer → Buffer) : (s.onBuffer f).skips = s.skips := rfl
@[simp] theorem State.onBuffer_engine (s : State) (f : Buffer → Buffer) : (s.onBuffer f).engine = s.engine := rfl
@[simp] theorem State.onBuffer_channel (s : State) (f : Buffer → Buffer) : (s.onBuffer f).channel = s.channel := rfl
@[simp] theorem State.onBuffer_alternation (s : State) (f : Buffer → Buffer) :
    (s.onBuffer f).alternation = s.alternation := rfl
@[simp] theorem State.onBuffer_composer (s : State) (f : Buffer → Buffer) :
    (s.onBuffer f).composer = s.composer := rfl
@[simp] theorem State.onBuffer_memory (s : State) (f : Buffer → Buffer) : (s.onBuffer f).memory = s.memory := rfl
@[simp] theorem State.onBuffer_freeCount (s : State) (f : Buffer → Buffer) :
    (s.onBuffer f).freeCount = s.freeCount := rfl
@[simp] theorem State.onBuffer_pending (s : State) (f : Buffer → Buffer) : (s.onBuffer f).pending = s.pending := rfl

@[simp] theorem State.onEngine_deviceReset (s : State) (f : Engine → Engine) :
    (s.onEngine f).deviceReset = s.deviceReset := rfl
@[simp] theorem State.onEngine_globalState (s : State) (f : Engine → Engine) :
    (s.onEngine f).globalState = s.globalState := rfl
@[simp] theorem State.onEngine_config (s : State) (f : Engine → Engine) : (s.onEngine f).config = s.config := rfl
@[simp] theorem State.onEngine_commitResult (s : State) (f : Engine → Engine) :
    (s.onEngine f).commitResult = s.commitResult := rfl
@[simp] theorem State.onEngine_memorySize (s : State) (f : Engine → Engine) :
    (s.onEngine f).memorySize = s.memorySize := rfl
@[simp] theorem State.onEngine_precedence (s : State) (f : Engine → Engine) :
    (s.onEngine f).precedence = s.precedence := rfl
@[simp] theorem State.onEngine_clearPosition (s : State) (f : Engine → Engine) :
    (s.onEngine f).clearPosition = s.clearPosition := rfl
@[simp] theorem State.onEngine_table (s : State) (f : Engine → Engine) : (s.onEngine f).table = s.table := rfl
@[simp] theorem State.onEngine_leaseSlots (s : State) (f : Engine → Engine) :
    (s.onEngine f).leaseSlots = s.leaseSlots := rfl
@[simp] theorem State.onEngine_waitList (s : State) (f : Engine → Engine) :
    (s.onEngine f).waitList = s.waitList := rfl
@[simp] theorem State.onEngine_parkings (s : State) (f : Engine → Engine) :
    (s.onEngine f).parkings = s.parkings := rfl
@[simp] theorem State.onEngine_ports (s : State) (f : Engine → Engine) : (s.onEngine f).ports = s.ports := rfl
@[simp] theorem State.onEngine_pointer (s : State) (f : Engine → Engine) : (s.onEngine f).pointer = s.pointer := rfl
@[simp] theorem State.onEngine_skips (s : State) (f : Engine → Engine) : (s.onEngine f).skips = s.skips := rfl
@[simp] theorem State.onEngine_buffer (s : State) (f : Engine → Engine) : (s.onEngine f).buffer = s.buffer := rfl
@[simp] theorem State.onEngine_channel (s : State) (f : Engine → Engine) : (s.onEngine f).channel = s.channel := rfl
@[simp] theorem State.onEngine_alternation (s : State) (f : Engine → Engine) :
    (s.onEngine f).alternation = s.alternation := rfl
@[simp] theorem State.onEngine_composer (s : State) (f : Engine → Engine) :
    (s.onEngine f).composer = s.composer := rfl
@[simp] theorem State.onEngine_memory (s : State) (f : Engine → Engine) : (s.onEngine f).memory = s.memory := rfl
@[simp] theorem State.onEngine_freeCount (s : State) (f : Engine → Engine) :
    (s.onEngine f).freeCount = s.freeCount := rfl
@[simp] theorem State.onEngine_pending (s : State) (f : Engine → Engine) : (s.onEngine f).pending = s.pending := rfl

@[simp] theorem State.onComposer_deviceReset (s : State) (f : Composer → Composer) :
    (s.onComposer f).deviceReset = s.deviceReset := rfl
@[simp] theorem State.onComposer_globalState (s : State) (f : Composer → Composer) :
    (s.onComposer f).globalState = s.globalState := rfl
@[simp] theorem State.onComposer_config (s : State) (f : Composer → Composer) :
    (s.onComposer f).config = s.config := rfl
@[simp] theorem State.onComposer_commitResult (s : State) (f : Composer → Composer) :
    (s.onComposer f).commitResult = s.commitResult := rfl
@[simp] theorem State.onComposer_memorySize (s : State) (f : Composer → Composer) :
    (s.onComposer f).memorySize = s.memorySize := rfl
@[simp] theorem State.onComposer_precedence (s : State) (f : Composer → Composer) :
    (s.onComposer f).precedence = s.precedence := rfl
@[simp] theorem State.onComposer_clearPosition (s : State) (f : Composer → Composer) :
    (s.onComposer f).clearPosition = s.clearPosition := rfl
@[simp] theorem State.onComposer_table (s : State) (f : Composer → Composer) : (s.onComposer f).table = s.table := rfl
@[simp] theorem State.onComposer_leaseSlots (s : State) (f : Composer → Composer) :
    (s.onComposer f).leaseSlots = s.leaseSlots := rfl
@[simp] theorem State.onComposer_waitList (s : State) (f : Composer → Composer) :
    (s.onComposer f).waitList = s.waitList := rfl
@[simp] theorem State.onComposer_parkings (s : State) (f : Composer → Composer) :
    (s.onComposer f).parkings = s.parkings := rfl
@[simp] theorem State.onComposer_ports (s : State) (f : Composer → Composer) : (s.onComposer f).ports = s.ports := rfl
@[simp] theorem State.onComposer_pointer (s : State) (f : Composer → Composer) :
    (s.onComposer f).pointer = s.pointer := rfl
@[simp] theorem State.onComposer_skips (s : State) (f : Composer → Composer) : (s.onComposer f).skips = s.skips := rfl
@[simp] theorem State.onComposer_engine (s : State) (f : Composer → Composer) :
    (s.onComposer f).engine = s.engine := rfl
@[simp] theorem State.onComposer_buffer (s : State) (f : Composer → Composer) :
    (s.onComposer f).buffer = s.buffer := rfl
@[simp] theorem State.onComposer_channel (s : State) (f : Composer → Composer) :
    (s.onComposer f).channel = s.channel := rfl
@[simp] theorem State.onComposer_alternation (s : State) (f : Composer → Composer) :
    (s.onComposer f).alternation = s.alternation := rfl
@[simp] theorem State.onComposer_memory (s : State) (f : Composer → Composer) :
    (s.onComposer f).memory = s.memory := rfl
@[simp] theorem State.onComposer_freeCount (s : State) (f : Composer → Composer) :
    (s.onComposer f).freeCount = s.freeCount := rfl
@[simp] theorem State.onComposer_pending (s : State) (f : Composer → Composer) :
    (s.onComposer f).pending = s.pending := rfl

@[simp] theorem State.onCurrent_deviceReset (s : State) (f : ActiveCommand → ActiveCommand) :
    (s.onCurrent f).deviceReset = s.deviceReset := rfl
@[simp] theorem State.onCurrent_globalState (s : State) (f : ActiveCommand → ActiveCommand) :
    (s.onCurrent f).globalState = s.globalState := rfl
@[simp] theorem State.onCurrent_config (s : State) (f : ActiveCommand → ActiveCommand) :
    (s.onCurrent f).config = s.config := rfl
@[simp] theorem State.onCurrent_commitResult (s : State) (f : ActiveCommand → ActiveCommand) :
    (s.onCurrent f).commitResult = s.commitResult := rfl
@[simp] theorem State.onCurrent_memorySize (s : State) (f : ActiveCommand → ActiveCommand) :
    (s.onCurrent f).memorySize = s.memorySize := rfl
@[simp] theorem State.onCurrent_precedence (s : State) (f : ActiveCommand → ActiveCommand) :
    (s.onCurrent f).precedence = s.precedence := rfl
@[simp] theorem State.onCurrent_clearPosition (s : State) (f : ActiveCommand → ActiveCommand) :
    (s.onCurrent f).clearPosition = s.clearPosition := rfl
@[simp] theorem State.onCurrent_table (s : State) (f : ActiveCommand → ActiveCommand) :
    (s.onCurrent f).table = s.table := rfl
@[simp] theorem State.onCurrent_leaseSlots (s : State) (f : ActiveCommand → ActiveCommand) :
    (s.onCurrent f).leaseSlots = s.leaseSlots := rfl
@[simp] theorem State.onCurrent_waitList (s : State) (f : ActiveCommand → ActiveCommand) :
    (s.onCurrent f).waitList = s.waitList := rfl
@[simp] theorem State.onCurrent_parkings (s : State) (f : ActiveCommand → ActiveCommand) :
    (s.onCurrent f).parkings = s.parkings := rfl
@[simp] theorem State.onCurrent_ports (s : State) (f : ActiveCommand → ActiveCommand) :
    (s.onCurrent f).ports = s.ports := rfl
@[simp] theorem State.onCurrent_pointer (s : State) (f : ActiveCommand → ActiveCommand) :
    (s.onCurrent f).pointer = s.pointer := rfl
@[simp] theorem State.onCurrent_skips (s : State) (f : ActiveCommand → ActiveCommand) :
    (s.onCurrent f).skips = s.skips := rfl
@[simp] theorem State.onCurrent_buffer (s : State) (f : ActiveCommand → ActiveCommand) :
    (s.onCurrent f).buffer = s.buffer := rfl
@[simp] theorem State.onCurrent_channel (s : State) (f : ActiveCommand → ActiveCommand) :
    (s.onCurrent f).channel = s.channel := rfl
@[simp] theorem State.onCurrent_alternation (s : State) (f : ActiveCommand → ActiveCommand) :
    (s.onCurrent f).alternation = s.alternation := rfl
@[simp] theorem State.onCurrent_composer (s : State) (f : ActiveCommand → ActiveCommand) :
    (s.onCurrent f).composer = s.composer := rfl
@[simp] theorem State.onCurrent_memory (s : State) (f : ActiveCommand → ActiveCommand) :
    (s.onCurrent f).memory = s.memory := rfl
@[simp] theorem State.onCurrent_freeCount (s : State) (f : ActiveCommand → ActiveCommand) :
    (s.onCurrent f).freeCount = s.freeCount := rfl
@[simp] theorem State.onCurrent_pending (s : State) (f : ActiveCommand → ActiveCommand) :
    (s.onCurrent f).pending = s.pending := rfl

@[simp] theorem State.post_deviceReset (s : State) (p : Port) (n : Notice) :
    (s.post p n).deviceReset = s.deviceReset := rfl
@[simp] theorem State.post_globalState (s : State) (p : Port) (n : Notice) :
    (s.post p n).globalState = s.globalState := rfl
@[simp] theorem State.post_config (s : State) (p : Port) (n : Notice) : (s.post p n).config = s.config := rfl
@[simp] theorem State.post_commitResult (s : State) (p : Port) (n : Notice) :
    (s.post p n).commitResult = s.commitResult := rfl
@[simp] theorem State.post_memorySize (s : State) (p : Port) (n : Notice) :
    (s.post p n).memorySize = s.memorySize := rfl
@[simp] theorem State.post_precedence (s : State) (p : Port) (n : Notice) :
    (s.post p n).precedence = s.precedence := rfl
@[simp] theorem State.post_clearPosition (s : State) (p : Port) (n : Notice) :
    (s.post p n).clearPosition = s.clearPosition := rfl
@[simp] theorem State.post_table (s : State) (p : Port) (n : Notice) : (s.post p n).table = s.table := rfl
@[simp] theorem State.post_leaseSlots (s : State) (p : Port) (n : Notice) :
    (s.post p n).leaseSlots = s.leaseSlots := rfl
@[simp] theorem State.post_waitList (s : State) (p : Port) (n : Notice) : (s.post p n).waitList = s.waitList := rfl
@[simp] theorem State.post_parkings (s : State) (p : Port) (n : Notice) : (s.post p n).parkings = s.parkings := rfl
@[simp] theorem State.post_pointer (s : State) (p : Port) (n : Notice) : (s.post p n).pointer = s.pointer := rfl
@[simp] theorem State.post_skips (s : State) (p : Port) (n : Notice) : (s.post p n).skips = s.skips := rfl
@[simp] theorem State.post_engine (s : State) (p : Port) (n : Notice) : (s.post p n).engine = s.engine := rfl
@[simp] theorem State.post_buffer (s : State) (p : Port) (n : Notice) : (s.post p n).buffer = s.buffer := rfl
@[simp] theorem State.post_channel (s : State) (p : Port) (n : Notice) : (s.post p n).channel = s.channel := rfl
@[simp] theorem State.post_alternation (s : State) (p : Port) (n : Notice) :
    (s.post p n).alternation = s.alternation := rfl
@[simp] theorem State.post_composer (s : State) (p : Port) (n : Notice) : (s.post p n).composer = s.composer := rfl
@[simp] theorem State.post_memory (s : State) (p : Port) (n : Notice) : (s.post p n).memory = s.memory := rfl
@[simp] theorem State.post_freeCount (s : State) (p : Port) (n : Notice) : (s.post p n).freeCount = s.freeCount := rfl
@[simp] theorem State.post_pending (s : State) (p : Port) (n : Notice) : (s.post p n).pending = s.pending := rfl

@[simp] theorem State.setAccessError_deviceReset (s : State) (p : Port) (e : AccessError) :
    (s.setAccessError p e).deviceReset = s.deviceReset := rfl
@[simp] theorem State.setAccessError_globalState (s : State) (p : Port) (e : AccessError) :
    (s.setAccessError p e).globalState = s.globalState := rfl
@[simp] theorem State.setAccessError_config (s : State) (p : Port) (e : AccessError) :
    (s.setAccessError p e).config = s.config := rfl
@[simp] theorem State.setAccessError_commitResult (s : State) (p : Port) (e : AccessError) :
    (s.setAccessError p e).commitResult = s.commitResult := rfl
@[simp] theorem State.setAccessError_memorySize (s : State) (p : Port) (e : AccessError) :
    (s.setAccessError p e).memorySize = s.memorySize := rfl
@[simp] theorem State.setAccessError_precedence (s : State) (p : Port) (e : AccessError) :
    (s.setAccessError p e).precedence = s.precedence := rfl
@[simp] theorem State.setAccessError_clearPosition (s : State) (p : Port) (e : AccessError) :
    (s.setAccessError p e).clearPosition = s.clearPosition := rfl
@[simp] theorem State.setAccessError_table (s : State) (p : Port) (e : AccessError) :
    (s.setAccessError p e).table = s.table := rfl
@[simp] theorem State.setAccessError_leaseSlots (s : State) (p : Port) (e : AccessError) :
    (s.setAccessError p e).leaseSlots = s.leaseSlots := rfl
@[simp] theorem State.setAccessError_waitList (s : State) (p : Port) (e : AccessError) :
    (s.setAccessError p e).waitList = s.waitList := rfl
@[simp] theorem State.setAccessError_parkings (s : State) (p : Port) (e : AccessError) :
    (s.setAccessError p e).parkings = s.parkings := rfl
@[simp] theorem State.setAccessError_pointer (s : State) (p : Port) (e : AccessError) :
    (s.setAccessError p e).pointer = s.pointer := rfl
@[simp] theorem State.setAccessError_skips (s : State) (p : Port) (e : AccessError) :
    (s.setAccessError p e).skips = s.skips := rfl
@[simp] theorem State.setAccessError_engine (s : State) (p : Port) (e : AccessError) :
    (s.setAccessError p e).engine = s.engine := rfl
@[simp] theorem State.setAccessError_buffer (s : State) (p : Port) (e : AccessError) :
    (s.setAccessError p e).buffer = s.buffer := rfl
@[simp] theorem State.setAccessError_channel (s : State) (p : Port) (e : AccessError) :
    (s.setAccessError p e).channel = s.channel := rfl
@[simp] theorem State.setAccessError_alternation (s : State) (p : Port) (e : AccessError) :
    (s.setAccessError p e).alternation = s.alternation := rfl
@[simp] theorem State.setAccessError_composer (s : State) (p : Port) (e : AccessError) :
    (s.setAccessError p e).composer = s.composer := rfl
@[simp] theorem State.setAccessError_memory (s : State) (p : Port) (e : AccessError) :
    (s.setAccessError p e).memory = s.memory := rfl
@[simp] theorem State.setAccessError_freeCount (s : State) (p : Port) (e : AccessError) :
    (s.setAccessError p e).freeCount = s.freeCount := rfl
@[simp] theorem State.setAccessError_pending (s : State) (p : Port) (e : AccessError) :
    (s.setAccessError p e).pending = s.pending := rfl

@[simp] theorem State.record_deviceReset (s : State) (p : Port) (o : LeaseOperation) (r : LeaseResult) (h : Option Handle) :
    (s.record p o r h).deviceReset = s.deviceReset := rfl
@[simp] theorem State.record_globalState (s : State) (p : Port) (o : LeaseOperation) (r : LeaseResult) (h : Option Handle) :
    (s.record p o r h).globalState = s.globalState := rfl
@[simp] theorem State.record_config (s : State) (p : Port) (o : LeaseOperation) (r : LeaseResult) (h : Option Handle) :
    (s.record p o r h).config = s.config := rfl
@[simp] theorem State.record_commitResult (s : State) (p : Port) (o : LeaseOperation) (r : LeaseResult) (h : Option Handle) :
    (s.record p o r h).commitResult = s.commitResult := rfl
@[simp] theorem State.record_memorySize (s : State) (p : Port) (o : LeaseOperation) (r : LeaseResult) (h : Option Handle) :
    (s.record p o r h).memorySize = s.memorySize := rfl
@[simp] theorem State.record_precedence (s : State) (p : Port) (o : LeaseOperation) (r : LeaseResult) (h : Option Handle) :
    (s.record p o r h).precedence = s.precedence := rfl
@[simp] theorem State.record_clearPosition (s : State) (p : Port) (o : LeaseOperation) (r : LeaseResult) (h : Option Handle) :
    (s.record p o r h).clearPosition = s.clearPosition := rfl
@[simp] theorem State.record_table (s : State) (p : Port) (o : LeaseOperation) (r : LeaseResult) (h : Option Handle) :
    (s.record p o r h).table = s.table := rfl
@[simp] theorem State.record_waitList (s : State) (p : Port) (o : LeaseOperation) (r : LeaseResult) (h : Option Handle) :
    (s.record p o r h).waitList = s.waitList := rfl
@[simp] theorem State.record_parkings (s : State) (p : Port) (o : LeaseOperation) (r : LeaseResult) (h : Option Handle) :
    (s.record p o r h).parkings = s.parkings := rfl
@[simp] theorem State.record_ports (s : State) (p : Port) (o : LeaseOperation) (r : LeaseResult) (h : Option Handle) :
    (s.record p o r h).ports = s.ports := rfl
@[simp] theorem State.record_pointer (s : State) (p : Port) (o : LeaseOperation) (r : LeaseResult) (h : Option Handle) :
    (s.record p o r h).pointer = s.pointer := rfl
@[simp] theorem State.record_skips (s : State) (p : Port) (o : LeaseOperation) (r : LeaseResult) (h : Option Handle) :
    (s.record p o r h).skips = s.skips := rfl
@[simp] theorem State.record_engine (s : State) (p : Port) (o : LeaseOperation) (r : LeaseResult) (h : Option Handle) :
    (s.record p o r h).engine = s.engine := rfl
@[simp] theorem State.record_buffer (s : State) (p : Port) (o : LeaseOperation) (r : LeaseResult) (h : Option Handle) :
    (s.record p o r h).buffer = s.buffer := rfl
@[simp] theorem State.record_channel (s : State) (p : Port) (o : LeaseOperation) (r : LeaseResult) (h : Option Handle) :
    (s.record p o r h).channel = s.channel := rfl
@[simp] theorem State.record_alternation (s : State) (p : Port) (o : LeaseOperation) (r : LeaseResult) (h : Option Handle) :
    (s.record p o r h).alternation = s.alternation := rfl
@[simp] theorem State.record_composer (s : State) (p : Port) (o : LeaseOperation) (r : LeaseResult) (h : Option Handle) :
    (s.record p o r h).composer = s.composer := rfl
@[simp] theorem State.record_memory (s : State) (p : Port) (o : LeaseOperation) (r : LeaseResult) (h : Option Handle) :
    (s.record p o r h).memory = s.memory := rfl
@[simp] theorem State.record_freeCount (s : State) (p : Port) (o : LeaseOperation) (r : LeaseResult) (h : Option Handle) :
    (s.record p o r h).freeCount = s.freeCount := rfl
@[simp] theorem State.record_pending (s : State) (p : Port) (o : LeaseOperation) (r : LeaseResult) (h : Option Handle) :
    (s.record p o r h).pending = s.pending := rfl

@[simp] theorem State.freeChannel_deviceReset (s : State) : (s.freeChannel).deviceReset = s.deviceReset := rfl
@[simp] theorem State.freeChannel_globalState (s : State) : (s.freeChannel).globalState = s.globalState := rfl
@[simp] theorem State.freeChannel_config (s : State) : (s.freeChannel).config = s.config := rfl
@[simp] theorem State.freeChannel_commitResult (s : State) : (s.freeChannel).commitResult = s.commitResult := rfl
@[simp] theorem State.freeChannel_memorySize (s : State) : (s.freeChannel).memorySize = s.memorySize := rfl
@[simp] theorem State.freeChannel_precedence (s : State) : (s.freeChannel).precedence = s.precedence := rfl
@[simp] theorem State.freeChannel_clearPosition (s : State) : (s.freeChannel).clearPosition = s.clearPosition := rfl
@[simp] theorem State.freeChannel_table (s : State) : (s.freeChannel).table = s.table := rfl
@[simp] theorem State.freeChannel_leaseSlots (s : State) : (s.freeChannel).leaseSlots = s.leaseSlots := rfl
@[simp] theorem State.freeChannel_waitList (s : State) : (s.freeChannel).waitList = s.waitList := rfl
@[simp] theorem State.freeChannel_parkings (s : State) : (s.freeChannel).parkings = s.parkings := rfl
@[simp] theorem State.freeChannel_ports (s : State) : (s.freeChannel).ports = s.ports := rfl
@[simp] theorem State.freeChannel_pointer (s : State) : (s.freeChannel).pointer = s.pointer := rfl
@[simp] theorem State.freeChannel_skips (s : State) : (s.freeChannel).skips = s.skips := rfl
@[simp] theorem State.freeChannel_engine (s : State) : (s.freeChannel).engine = s.engine := rfl
@[simp] theorem State.freeChannel_buffer (s : State) : (s.freeChannel).buffer = s.buffer := rfl
@[simp] theorem State.freeChannel_alternation (s : State) : (s.freeChannel).alternation = s.alternation := rfl
@[simp] theorem State.freeChannel_composer (s : State) : (s.freeChannel).composer = s.composer := rfl
@[simp] theorem State.freeChannel_memory (s : State) : (s.freeChannel).memory = s.memory := rfl
@[simp] theorem State.freeChannel_freeCount (s : State) : (s.freeChannel).freeCount = s.freeCount := rfl
@[simp] theorem State.freeChannel_pending (s : State) : (s.freeChannel).pending = s.pending := rfl

@[simp] theorem State.writeBlock_deviceReset (s : State) (b : BlockName) (v : Block) :
    (s.writeBlock b v).deviceReset = s.deviceReset := rfl
@[simp] theorem State.writeBlock_globalState (s : State) (b : BlockName) (v : Block) :
    (s.writeBlock b v).globalState = s.globalState := rfl
@[simp] theorem State.writeBlock_config (s : State) (b : BlockName) (v : Block) :
    (s.writeBlock b v).config = s.config := rfl
@[simp] theorem State.writeBlock_commitResult (s : State) (b : BlockName) (v : Block) :
    (s.writeBlock b v).commitResult = s.commitResult := rfl
@[simp] theorem State.writeBlock_memorySize (s : State) (b : BlockName) (v : Block) :
    (s.writeBlock b v).memorySize = s.memorySize := rfl
@[simp] theorem State.writeBlock_precedence (s : State) (b : BlockName) (v : Block) :
    (s.writeBlock b v).precedence = s.precedence := rfl
@[simp] theorem State.writeBlock_clearPosition (s : State) (b : BlockName) (v : Block) :
    (s.writeBlock b v).clearPosition = s.clearPosition := rfl
@[simp] theorem State.writeBlock_table (s : State) (b : BlockName) (v : Block) :
    (s.writeBlock b v).table = s.table := rfl
@[simp] theorem State.writeBlock_leaseSlots (s : State) (b : BlockName) (v : Block) :
    (s.writeBlock b v).leaseSlots = s.leaseSlots := rfl
@[simp] theorem State.writeBlock_waitList (s : State) (b : BlockName) (v : Block) :
    (s.writeBlock b v).waitList = s.waitList := rfl
@[simp] theorem State.writeBlock_parkings (s : State) (b : BlockName) (v : Block) :
    (s.writeBlock b v).parkings = s.parkings := rfl
@[simp] theorem State.writeBlock_ports (s : State) (b : BlockName) (v : Block) :
    (s.writeBlock b v).ports = s.ports := rfl
@[simp] theorem State.writeBlock_pointer (s : State) (b : BlockName) (v : Block) :
    (s.writeBlock b v).pointer = s.pointer := rfl
@[simp] theorem State.writeBlock_skips (s : State) (b : BlockName) (v : Block) :
    (s.writeBlock b v).skips = s.skips := rfl
@[simp] theorem State.writeBlock_engine (s : State) (b : BlockName) (v : Block) :
    (s.writeBlock b v).engine = s.engine := rfl
@[simp] theorem State.writeBlock_buffer (s : State) (b : BlockName) (v : Block) :
    (s.writeBlock b v).buffer = s.buffer := rfl
@[simp] theorem State.writeBlock_channel (s : State) (b : BlockName) (v : Block) :
    (s.writeBlock b v).channel = s.channel := rfl
@[simp] theorem State.writeBlock_alternation (s : State) (b : BlockName) (v : Block) :
    (s.writeBlock b v).alternation = s.alternation := rfl
@[simp] theorem State.writeBlock_composer (s : State) (b : BlockName) (v : Block) :
    (s.writeBlock b v).composer = s.composer := rfl
@[simp] theorem State.writeBlock_freeCount (s : State) (b : BlockName) (v : Block) :
    (s.writeBlock b v).freeCount = s.freeCount := rfl
@[simp] theorem State.writeBlock_pending (s : State) (b : BlockName) (v : Block) :
    (s.writeBlock b v).pending = s.pending := rfl

/-! ### What an update changes -/

@[simp] theorem State.onPort_get_self (s : State) (p : Port) (f : HostPort → HostPort) :
    (s.onPort p f).ports.get p = f (s.ports.get p) := PerPort.get_set_self _ _ _

theorem State.onPort_get_of_ne (s : State) {p r : Port} (f : HostPort → HostPort) (h : r ≠ p) :
    (s.onPort p f).ports.get r = s.ports.get r := PerPort.get_set_of_ne _ _ h

@[simp] theorem State.onPort_onPort (s : State) (p : Port) (f g : HostPort → HostPort) :
    (s.onPort p f).onPort p g = s.onPort p (fun hp => g (f hp)) := by simp [State.onPort]

@[simp] theorem State.onPort_id (s : State) (p : Port) : s.onPort p (fun hp => hp) = s := by simp [State.onPort]

@[simp] theorem State.onLease_get_self (s : State) (p : Port) (f : LeaseSlot → LeaseSlot) :
    (s.onLease p f).leaseSlots.get p = f (s.leaseSlots.get p) := PerPort.get_set_self _ _ _

theorem State.onLease_get_of_ne (s : State) {p r : Port} (f : LeaseSlot → LeaseSlot) (h : r ≠ p) :
    (s.onLease p f).leaseSlots.get r = s.leaseSlots.get r := PerPort.get_set_of_ne _ _ h

@[simp] theorem State.onSlot_slot_self (s : State) (i : SlotNo) (f : Slot → Slot) :
    (s.onSlot i f).slot i = f (s.slot i) := by simp [State.slot, State.onSlot]

theorem State.onSlot_slot_of_ne (s : State) {i j : SlotNo} (f : Slot → Slot) (h : j ≠ i) :
    (s.onSlot i f).slot j = s.slot j := by
  have h' : i.val ≠ j.val := fun e => h (Fin.ext e.symm)
  simp [State.slot, State.onSlot, h']

theorem State.onSlot_slot (s : State) (i j : SlotNo) (f : Slot → Slot) :
    (s.onSlot i f).slot j = if j = i then f (s.slot i) else s.slot j := by
  split
  · subst_vars; exact State.onSlot_slot_self s _ f
  · exact State.onSlot_slot_of_ne s f ‹_›

@[simp] theorem State.onBuffer_buffer (s : State) (f : Buffer → Buffer) : (s.onBuffer f).buffer = f s.buffer := rfl
@[simp] theorem State.onEngine_engine (s : State) (f : Engine → Engine) : (s.onEngine f).engine = f s.engine := rfl
@[simp] theorem State.onComposer_composer (s : State) (f : Composer → Composer) :
    (s.onComposer f).composer = f s.composer := rfl
@[simp] theorem State.freeChannel_channel (s : State) : s.freeChannel.channel = none := rfl
@[simp] theorem State.writeBlock_memory (s : State) (b : BlockName) (v : Block) :
    (s.writeBlock b v).memory = s.memory.writeBlock (s.addressOf b) v := rfl

@[simp] theorem State.onCurrent_current (s : State) (f : ActiveCommand → ActiveCommand) :
    (s.onCurrent f).engine.current = s.engine.current.map f := rfl

/-- Offering a list of notices to one port is one update of that port. -/
theorem State.postList_eq (s : State) (p : Port) (ns : List Notice) :
    s.postList p ns = s.onPort p (fun hp => ns.foldl (fun h n => h.offer n) hp) := by
  induction ns generalizing s with
  | nil => exact (State.onPort_id s p).symm
  | cons n rest ih =>
    show (s.post p n).postList p rest = _
    rw [ih, State.post, State.onPort_onPort]; rfl

/-! ### Slots read through the table -/

theorem State.slot_of_table {s t : State} (h : t.table = s.table) (i : SlotNo) : t.slot i = s.slot i := by
  simp [State.slot, h]

end Sys2Proof.Machine
end

