-- ==== Sys2Proof/Laws/Memory.lean ====
section
/-! SUPPORT. What surface memory's operations do: a read after a write, a read elsewhere, and the canonical form that
every write keeps (R2, R136). -/

namespace Sys2Proof.Machine

/-! ### The canonical form -/

/-- The canonical form says that addresses rise strictly. -/
theorem Memory.wf_iff (m : Memory) : m.wf = true ↔ m.Pairwise (fun a b => a.1 < b.1) := by
  induction m with
  | nil => simp [Memory.wf]
  | cons a rest ih =>
    cases rest with
    | nil => simp [Memory.wf]
    | cons b rest =>
      simp only [Memory.wf, Bool.and_eq_true, decide_eq_true_eq, ih, List.pairwise_cons, List.mem_cons]
      constructor
      · rintro ⟨hab, hb, hrest⟩
        refine ⟨?_, hb, hrest⟩
        rintro c (rfl | hc)
        · exact hab
        · exact lt_trans hab (hb c hc)
      · rintro ⟨ha, hb, hrest⟩
        exact ⟨ha b (Or.inl rfl), hb, hrest⟩

theorem cellsFrom_mem {a : Nat} {bytes : List Byte} {c : Host.Cell} (h : c ∈ cellsFrom a bytes) :
    a ≤ c.1 ∧ c.1 < a + bytes.length := by
  induction bytes generalizing a with
  | nil => cases h
  | cons b rest ih =>
    rcases List.mem_cons.mp h with rfl | h
    · simp
    · have := ih h; simp only [List.length_cons]; omega

theorem cellsFrom_pairwise (a : Nat) (bytes : List Byte) :
    (cellsFrom a bytes).Pairwise (fun c d => c.1 < d.1) := by
  induction bytes generalizing a with
  | nil => exact List.Pairwise.nil
  | cons b rest ih =>
    refine List.Pairwise.cons (fun c hc => ?_) (ih (a + 1))
    have := cellsFrom_mem hc
    show a < c.1
    omega

/-- Every store keeps the canonical form. -/
theorem Memory.store_wf {m : Memory} (h : m.wf = true) (a : Nat) (bytes : List Byte) : (m.store a bytes).wf = true := by
  rw [Memory.wf_iff] at h ⊢
  unfold Memory.store
  rw [List.pairwise_append, List.pairwise_append]
  refine ⟨⟨h.filter _, cellsFrom_pairwise a bytes, ?_⟩, h.filter _, ?_⟩
  · intro c hc d hd
    have := cellsFrom_mem hd
    simp only [List.mem_filter, decide_eq_true_eq] at hc
    omega
  · intro c hc d hd
    simp only [List.mem_filter, decide_eq_true_eq] at hd
    rcases List.mem_append.mp hc with hc | hc
    · simp only [List.mem_filter, decide_eq_true_eq] at hc; omega
    · have := cellsFrom_mem hc; omega

theorem Memory.writeBlock_wf {m : Memory} (h : m.wf = true) (a : Nat) (b : Block) : (m.writeBlock a b).wf = true :=
  Memory.store_wf h a _

/-- Nothing is listed after device reset. -/
theorem State.reset_memory_wf : State.reset.memory.wf = true := rfl

/-! ### Reads -/

theorem lookup_filter_of_true {m : Memory} {q : Host.Cell → Bool} {x : Nat} (h : ∀ b, q (x, b) = true) :
    List.lookup x (m.filter q) = List.lookup x m := by
  induction m with
  | nil => rfl
  | cons c rest ih =>
    obtain ⟨y, b⟩ := c
    by_cases hxy : x = y
    · subst hxy; simp [h b]
    · have hbeq : (x == y) = false := by simpa using hxy
      cases hq : q (y, b) <;> simp [hq, List.lookup_cons, hbeq, ih]

theorem lookup_eq_none_of_forall {m : Memory} {x : Nat} (h : ∀ c ∈ m, c.1 ≠ x) : List.lookup x m = none := by
  induction m with
  | nil => rfl
  | cons c rest ih =>
    obtain ⟨y, b⟩ := c
    have hc : (x == y) = false := by simpa using fun e => h (y, b) List.mem_cons_self e.symm
    rw [List.lookup_cons, hc]
    exact ih fun d hd => h d (List.mem_cons_of_mem _ hd)

theorem lookup_cellsFrom (a i : Nat) (bytes : List Byte) : List.lookup (a + i) (cellsFrom a bytes) = bytes[i]? := by
  induction bytes generalizing a i with
  | nil => rfl
  | cons b rest ih =>
    cases i with
    | zero => simp [cellsFrom]
    | succ i =>
      have h : (a + (i + 1) == a) = false := by simp
      have e : a + (i + 1) = (a + 1) + i := by omega
      simp only [cellsFrom, List.lookup_cons, h]
      rw [e, ih]; simp

/-- A read outside the stored bytes gives what it gave before. -/
theorem Memory.read_store_of_outside (m : Memory) (a x : Nat) (bytes : List Byte) (h : x < a ∨ a + bytes.length ≤ x) :
    (m.store a bytes).read x = m.read x := by
  have hcells : List.lookup x (cellsFrom a bytes) = none :=
    lookup_eq_none_of_forall fun c hc e => by have := cellsFrom_mem hc; omega
  unfold Memory.read Memory.store
  rw [List.lookup_append, List.lookup_append, hcells]
  rcases h with h | h
  · rw [lookup_filter_of_true (fun _ => by simpa using h)]
    have : List.lookup x (m.filter fun c => a + bytes.length ≤ c.1) = none :=
      lookup_eq_none_of_forall fun c hc e => by
        simp only [List.mem_filter, decide_eq_true_eq] at hc; omega
    rw [this]; simp
  · have : List.lookup x (m.filter fun c => c.1 < a) = none :=
      lookup_eq_none_of_forall fun c hc e => by
        simp only [List.mem_filter, decide_eq_true_eq] at hc; omega
    rw [this, lookup_filter_of_true (fun _ => by simpa using h)]; simp

/-- A read of a stored byte gives that byte. -/
theorem Memory.read_store_of_inside (m : Memory) (a i : Nat) (bytes : List Byte) (h : i < bytes.length) :
    (m.store a bytes).read (a + i) = some bytes[i] := by
  have hlow : List.lookup (a + i) (m.filter fun c => c.1 < a) = none :=
    lookup_eq_none_of_forall fun c hc e => by
      simp only [List.mem_filter, decide_eq_true_eq] at hc; omega
  unfold Memory.read Memory.store
  rw [List.lookup_append, List.lookup_append, hlow, lookup_cellsFrom, List.getElem?_eq_getElem h]; simp

theorem blockBytes_length (b : Block) : (blockBytes b).length = 32 := by
  simp [blockBytes, List.length_flatMap, pixelBytes]

theorem flatMap_pixelBytes_getElem? (l : List Pixel) (i : Nat) (h : i < l.length) :
    (l.flatMap pixelBytes)[2 * i]? = some (l[i].extractLsb' 0 8) ∧
      (l.flatMap pixelBytes)[2 * i + 1]? = some (l[i].extractLsb' 8 8) := by
  induction l generalizing i with
  | nil => simp at h
  | cons v rest ih =>
    cases i with
    | zero => simp [pixelBytes]
    | succ i =>
      have hi : i < rest.length := by simpa using h
      have e : 2 * (i + 1) = 2 * i + 1 + 1 := by omega
      simp only [List.flatMap_cons, pixelBytes, List.cons_append, List.nil_append, e, List.getElem?_cons_succ,
        List.getElem_cons_succ]
      exact ih i hi

theorem pixelOf_pixelBytes (v : Pixel) : pixelOf (v.extractLsb' 0 8) (v.extractLsb' 8 8) = v := by
  unfold pixelOf
  apply BitVec.eq_of_getLsbD_eq
  intro i hi
  rw [BitVec.getLsbD_append]
  by_cases h : i < 8
  · simp [h]
  · have h8 : i - 8 < 8 := by omega
    have e : 8 + (i - 8) = i := by omega
    simp [h, h8, e]

/-- A block read where a block was written gives that block (R136). -/
theorem Memory.readBlock_writeBlock (m : Memory) (a : Nat) (b : Block) : (m.writeBlock a b).readBlock a = b := by
  apply Vector.ext
  intro i hi
  have hl : i < b.toList.length := by simpa using hi
  have hget := flatMap_pixelBytes_getElem? b.toList i hl
  have hlen := blockBytes_length b
  have h0 : (m.store a (blockBytes b)).read (a + 2 * i) = some (b[i].extractLsb' 0 8) := by
    have hb : 2 * i < (blockBytes b).length := by omega
    rw [Memory.read_store_of_inside m a (2 * i) _ hb]
    have := hget.1
    rw [show b.toList.flatMap pixelBytes = blockBytes b from rfl, List.getElem?_eq_getElem hb] at this
    simpa using this
  have h1 : (m.store a (blockBytes b)).read (a + 2 * i + 1) = some (b[i].extractLsb' 8 8) := by
    have hb : 2 * i + 1 < (blockBytes b).length := by omega
    rw [Nat.add_assoc, Memory.read_store_of_inside m a (2 * i + 1) _ hb]
    have := hget.2
    rw [show b.toList.flatMap pixelBytes = blockBytes b from rfl, List.getElem?_eq_getElem hb] at this
    simpa using this
  simp only [Memory.readBlock, Memory.writeBlock, Memory.load, Vector.getElem_ofFn, h0, h1, Option.getD_some]
  exact pixelOf_pixelBytes _

/-- A byte outside a written block's 32 bytes reads as before (R136). -/
theorem Memory.read_writeBlock_of_outside (m : Memory) (a x : Nat) (b : Block) (h : x < a ∨ a + 32 ≤ x) :
    (m.writeBlock a b).read x = m.read x :=
  Memory.read_store_of_outside m a x _ (by rw [blockBytes_length]; exact h)

/-- A block that shares no byte with a written one reads as before (R136). -/
theorem Memory.readBlock_writeBlock_of_disjoint (m : Memory) (a x : Nat) (b : Block) (h : x + 32 ≤ a ∨ a + 32 ≤ x) :
    (m.writeBlock a b).readBlock x = m.readBlock x := by
  apply Vector.ext
  intro i hi
  simp only [Memory.readBlock, Memory.load, Vector.getElem_ofFn]
  rw [Memory.read_writeBlock_of_outside m a _ b (by omega), Memory.read_writeBlock_of_outside m a _ b (by omega)]

end Sys2Proof.Machine
end

