-- ==== Sys2Proof/Laws/Frames.lean ====
section
/-! SUPPORT. What the Lease Manager's shared operations can do, said once: which parts of the state a revocation, a
departure, a grant, an evaluation of the wait list or a posting leaves as they were. -/

namespace Sys2Proof.Machine

/-! ### Postings -/

/-- The notice queue and loss count within their bounds (R177, R178). -/
def HostPort.noticesBounded (hp : HostPort) : Prop := hp.notices.length ≤ noticeCapacity ∧ hp.lossCount ≤ 255

@[simp] theorem HostPort.offer_quiet (n : Notice) (hp : HostPort) : (hp.offer n).quiet = hp.quiet := by
  unfold HostPort.offer
  split
  · split <;> rfl
  · rfl

theorem HostPort.offer_bounded {n : Notice} {hp : HostPort} (h : hp.noticesBounded) : (hp.offer n).noticesBounded := by
  unfold HostPort.offer
  obtain ⟨h1, h2⟩ := h
  split
  · split
    · exact ⟨by simp only [List.length_append, List.length_singleton]; omega, h2⟩
    · exact ⟨h1, by simp only []; omega⟩
  · exact ⟨h1, h2⟩

/-! ### The frame of the Lease Manager's work -/

/-- `t` differs from `s` at most where the Lease Manager and the departures it causes reach: the window table, the lease
slots, the wait list, the ports' notice queues and loss counts, the buffer's age order and its VOIDED counter, and the
signal to an engine in WAIT_BUFFER. The age order gains nothing. -/
structure LeaseFrame (s t : State) : Prop where
  deviceReset : t.deviceReset = s.deviceReset
  globalState : t.globalState = s.globalState
  config : t.config = s.config
  commitResult : t.commitResult = s.commitResult
  memorySize : t.memorySize = s.memorySize
  precedence : t.precedence = s.precedence
  clearPosition : t.clearPosition = s.clearPosition
  pointer : t.pointer = s.pointer
  skips : t.skips = s.skips
  channel : t.channel = s.channel
  alternation : t.alternation = s.alternation
  composer : t.composer = s.composer
  memory : t.memory = s.memory
  freeCount : t.freeCount = s.freeCount
  pending : t.pending = s.pending
  ports : ∀ p, (t.ports.get p).quiet = (s.ports.get p).quiet
  notices : ∀ p, (s.ports.get p).noticesBounded → (t.ports.get p).noticesBounded
  engineState : t.engine.state = s.engine.state
  current : t.engine.current = s.engine.current
  outstandingRead : t.engine.outstandingRead = s.engine.outstandingRead
  engineRead : t.buffer.engineRead = s.buffer.engineRead
  merges : t.buffer.merges = s.buffer.merges
  fullForwards : t.buffer.fullForwards = s.buffer.fullForwards
  underfills : t.buffer.underfills = s.buffer.underfills
  occupancy : t.buffer.occupancy ≤ s.buffer.occupancy
  markers : ∀ p, (t.buffer.markersOf p).length ≤ (s.buffer.markersOf p).length

theorem LeaseFrame.refl (s : State) : LeaseFrame s s := by
  constructor <;> intros <;> first | rfl | exact Nat.le_refl _ | assumption

theorem LeaseFrame.trans {s t u : State} (a : LeaseFrame s t) (b : LeaseFrame t u) : LeaseFrame s u where
  deviceReset := b.deviceReset.trans a.deviceReset
  globalState := b.globalState.trans a.globalState
  config := b.config.trans a.config
  commitResult := b.commitResult.trans a.commitResult
  memorySize := b.memorySize.trans a.memorySize
  precedence := b.precedence.trans a.precedence
  clearPosition := b.clearPosition.trans a.clearPosition
  pointer := b.pointer.trans a.pointer
  skips := b.skips.trans a.skips
  channel := b.channel.trans a.channel
  alternation := b.alternation.trans a.alternation
  composer := b.composer.trans a.composer
  memory := b.memory.trans a.memory
  freeCount := b.freeCount.trans a.freeCount
  pending := b.pending.trans a.pending
  ports p := (b.ports p).trans (a.ports p)
  notices p h := b.notices p (a.notices p h)
  engineState := b.engineState.trans a.engineState
  current := b.current.trans a.current
  outstandingRead := b.outstandingRead.trans a.outstandingRead
  engineRead := b.engineRead.trans a.engineRead
  merges := b.merges.trans a.merges
  fullForwards := b.fullForwards.trans a.fullForwards
  underfills := b.underfills.trans a.underfills
  occupancy := le_trans b.occupancy a.occupancy
  markers p := le_trans (b.markers p) (a.markers p)

/-! ### One lemma for each operation -/

/-- An update of one slot of the window table. -/
theorem onSlot_frame (s : State) (i : SlotNo) (f : Slot → Slot) : LeaseFrame s (s.onSlot i f) := by
  constructor <;> intros <;> first | rfl | exact Nat.le_refl _ | assumption

/-- An update of one lease slot. -/
theorem onLease_frame (s : State) (p : Port) (f : LeaseSlot → LeaseSlot) : LeaseFrame s (s.onLease p f) := by
  constructor <;> intros <;> first | rfl | exact Nat.le_refl _ | assumption

/-- An update of the wait list. -/
theorem waitList_frame (s : State) (l : List Port) : LeaseFrame s { s with waitList := l } := by
  constructor <;> intros <;> first | rfl | exact Nat.le_refl _ | assumption

/-- An update of the count of parkings. -/
theorem parkings_frame (s : State) (n : Nat) : LeaseFrame s { s with parkings := n } := by
  constructor <;> intros <;> first | rfl | exact Nat.le_refl _ | assumption

/-- A posting. -/
theorem post_frame (s : State) (p : Port) (n : Notice) : LeaseFrame s (s.post p n) := by
  constructor <;> intros <;> first | rfl | exact Nat.le_refl _ | skip
  · rename_i r
    by_cases h : r = p
    · subst h; simp [State.post]
    · rw [State.post, State.onPort_get_of_ne s _ h]
  · rename_i r h
    by_cases e : r = p
    · subst e; simpa [State.post] using HostPort.offer_bounded h
    · rw [State.post, State.onPort_get_of_ne s _ e]; exact h

/-- Several postings to one port. -/
theorem postList_frame (s : State) (p : Port) (ns : List Notice) : LeaseFrame s (s.postList p ns) := by
  unfold State.postList
  induction ns generalizing s with
  | nil => exact .refl s
  | cons n rest ih => exact (post_frame s p n).trans (ih _)

/-- The same posting to every port. -/
theorem postAll_frame (s : State) (n : Notice) : LeaseFrame s (s.postAll n) := by
  unfold State.postAll
  generalize Port.all = ps
  induction ps generalizing s with
  | nil => exact .refl s
  | cons p rest ih => exact (post_frame s p n).trans (ih _)

/-- A change of the age order that adds no entry and no marker, with any value of the VOIDED counter. -/
theorem items_frame (s : State) (items : List AgeItem) (v : BitVec 32)
    (he : (items.filterMap AgeItem.entry?).length ≤ s.buffer.occupancy)
    (hm : ∀ p, ((items.filterMap AgeItem.marker?).filter fun m => m.port == p).length ≤
      (s.buffer.markersOf p).length) :
    LeaseFrame s (s.onBuffer fun b => { b with items := items, voided := v }) := by
  constructor <;> intros <;> first | rfl | exact Nat.le_refl _ | assumption | exact hm _

/-! ### The age order's entries and markers -/

@[simp] theorem entries_entry (e : Entry) (rest : List AgeItem) :
    (AgeItem.entry e :: rest).filterMap AgeItem.entry? = e :: rest.filterMap AgeItem.entry? := rfl

@[simp] theorem entries_marker (m : Marker) (rest : List AgeItem) :
    (AgeItem.marker m :: rest).filterMap AgeItem.entry? = rest.filterMap AgeItem.entry? := rfl

@[simp] theorem markers_entry (e : Entry) (rest : List AgeItem) :
    (AgeItem.entry e :: rest).filterMap AgeItem.marker? = rest.filterMap AgeItem.marker? := rfl

@[simp] theorem markers_marker (m : Marker) (rest : List AgeItem) :
    (AgeItem.marker m :: rest).filterMap AgeItem.marker? = m :: rest.filterMap AgeItem.marker? := rfl

/-- Completing markers takes no entry away (R130). -/
theorem takeMarkers_entries (p : Port) (items : List AgeItem) :
    (takeMarkers p items).2.filterMap AgeItem.entry? = items.filterMap AgeItem.entry? := by
  induction items with
  | nil => rfl
  | cons it rest ih =>
    cases it with
    | entry e => by_cases h : e.port = p <;> simp [takeMarkers, h, ih]
    | marker m => by_cases h : m.port = p <;> simp [takeMarkers, h, ih]

/-- Completing markers adds none (R130). -/
theorem takeMarkers_markers (p : Port) (items : List AgeItem) :
    List.Sublist ((takeMarkers p items).2.filterMap AgeItem.marker?) (items.filterMap AgeItem.marker?) := by
  induction items with
  | nil => exact List.Sublist.refl _
  | cons it rest ih =>
    cases it with
    | entry e => by_cases h : e.port = p <;> simp [takeMarkers, h, ih]
    | marker m =>
      by_cases h : m.port = p
      · simpa [takeMarkers, h] using ih.cons m
      · simpa [takeMarkers, h] using ih

/-- A removal takes one entry away at most, and no marker. -/
theorem removeOldest_entries (q : Entry → Bool) (items : List AgeItem) :
    List.Sublist ((removeOldest q items).filterMap AgeItem.entry?) (items.filterMap AgeItem.entry?) := by
  induction items with
  | nil => exact List.Sublist.refl _
  | cons it rest ih =>
    cases it with
    | entry e => by_cases h : q e = true <;> simp [removeOldest, h, ih]
    | marker m => simpa [removeOldest] using ih

theorem removeOldest_markers (q : Entry → Bool) (items : List AgeItem) :
    (removeOldest q items).filterMap AgeItem.marker? = items.filterMap AgeItem.marker? := by
  induction items with
  | nil => rfl
  | cons it rest ih =>
    cases it with
    | entry e => by_cases h : q e = true <;> simp [removeOldest, h, ih]
    | marker m => simp [removeOldest, ih]

/-- A change of one entry keeps the number of entries and every marker. -/
theorem changeOldest_entries (q : Entry → Bool) (f : Entry → Entry) (items : List AgeItem) :
    ((changeOldest q f items).filterMap AgeItem.entry?).length = (items.filterMap AgeItem.entry?).length := by
  induction items with
  | nil => rfl
  | cons it rest ih =>
    cases it with
    | entry e => by_cases h : q e = true <;> simp [changeOldest, h, ih]
    | marker m => simp [changeOldest, ih]

theorem changeOldest_markers (q : Entry → Bool) (f : Entry → Entry) (items : List AgeItem) :
    (changeOldest q f items).filterMap AgeItem.marker? = items.filterMap AgeItem.marker? := by
  induction items with
  | nil => rfl
  | cons it rest ih =>
    cases it with
    | entry e => by_cases h : q e = true <;> simp [changeOldest, h, ih]
    | marker m => simp [changeOldest, ih]

/-- Voiding a handle's entries adds no entry and keeps every marker (R127). -/
theorem voidItems_entries (h : Handle) (items : List AgeItem) :
    ((voidItems h items).filterMap AgeItem.entry?).length ≤ (items.filterMap AgeItem.entry?).length := by
  induction items with
  | nil => simp [voidItems]
  | cons it rest ih =>
    cases it with
    | entry e =>
      cases he : Entry.leavesAtRevocation h e
      · simpa [voidItems, he, AgeItem.onEntry, List.filter_cons, AgeItem.entry?] using ih
      · have : (voidItems h (AgeItem.entry e :: rest)) = voidItems h rest := by
          simp [voidItems, AgeItem.entry?, he]
        rw [this, entries_entry, List.length_cons]; omega
    | marker m => simpa [voidItems, AgeItem.onEntry, AgeItem.entry?] using ih

theorem voidItems_markers (h : Handle) (items : List AgeItem) :
    (voidItems h items).filterMap AgeItem.marker? = items.filterMap AgeItem.marker? := by
  induction items with
  | nil => rfl
  | cons it rest ih =>
    cases it with
    | entry e =>
      cases he : Entry.leavesAtRevocation h e
      · simpa [voidItems, he, AgeItem.onEntry, AgeItem.entry?] using ih
      · simpa [voidItems, he, AgeItem.entry?] using ih
    | marker m => simpa [voidItems, AgeItem.onEntry, AgeItem.entry?] using ih

/-! ### One lemma for each operation over the age order -/

theorem completeMarkers_frame (s : State) (p : Port) : LeaseFrame s (s.completeMarkers p) := by
  refine LeaseFrame.trans (t := s.onBuffer fun b => { b with items := (takeMarkers p b.items).2 }) ?_
    (postList_frame _ _ _)
  refine items_frame s _ s.buffer.voided (by rw [takeMarkers_entries]; exact Nat.le_refl _) fun q => ?_
  exact ((takeMarkers_markers p s.buffer.items).filter _).length_le

theorem signalDeparture_frame (s : State) : LeaseFrame s s.signalDeparture := by
  unfold State.signalDeparture State.onEngine
  by_cases h : s.engine.state = .waitBuffer
  · simp only [h, if_true]
    constructor <;> intros <;> first | rfl | exact Nat.le_refl _ | assumption | exact h.symm
  · simp only [h, if_false]; exact .refl s

/-- The freeing check changes its slot alone, and posts at most WINDOW_FREED (R29). -/
theorem freeingCheck_frame (s : State) (i : SlotNo) : LeaseFrame s (s.freeingCheck i) := by
  unfold State.freeingCheck
  split
  · exact (onSlot_frame s i _).trans (post_frame _ _ _)
  · exact onSlot_frame s i _
  · exact .refl s

/-- Voiding the entries of a handle (R127). -/
theorem voidEntries_frame (s : State) (h : Handle) (owner : Port) : LeaseFrame s (s.voidEntries h owner) := by
  have key : LeaseFrame s ((s.onBuffer fun b => { b with
      items := voidItems h b.items,
      voided := b.voided + BitVec.ofNat 32 (s.buffer.entries.countP (Entry.leavesAtRevocation h)) }).onSlot h.slot
        fun sl => { sl with
          outstanding := sl.outstanding - s.buffer.entries.countP (Entry.leavesAtRevocation h) }) :=
    (items_frame s _ _ (voidItems_entries h _) fun p => by rw [voidItems_markers]; exact Nat.le_refl _).trans
      (onSlot_frame _ _ _)
  unfold State.voidEntries
  simp only []
  split
  · exact key
  · exact (key.trans (signalDeparture_frame _)).trans (completeMarkers_frame _ _)

/-- The revocation of one window (R24). -/
theorem revokeWindow_frame (s : State) (i : SlotNo) (w : Window) (passed : Bool) (q : Option Port) :
    LeaseFrame s (s.revokeWindow i w passed q) := by
  have key := ((onSlot_frame s i fun sl => { sl with state := .revoked w passed }).trans
    (voidEntries_frame _ ⟨i, (s.slot i).generation⟩ w.owner)).trans (freeingCheck_frame _ i)
  unfold State.revokeWindow
  cases q with
  | none => exact key
  | some q => exact key.trans (post_frame _ _ _)

theorem revoke_frame (s : State) (i : SlotNo) (q : Option Port) : LeaseFrame s (s.revoke i q) := by
  unfold State.revoke
  split
  · exact revokeWindow_frame s i _ _ q
  · exact revokeWindow_frame s i _ _ q
  · exact .refl s

/-- Any fold of steps that each keep the frame keeps it. -/
theorem foldl_frame {α : Type} (f : State → α → State) (hf : ∀ s a, LeaseFrame s (f s a)) (l : List α) (s : State) :
    LeaseFrame s (l.foldl f s) := by
  induction l generalizing s with
  | nil => exact .refl s
  | cons a rest ih => exact (hf s a).trans (ih _)

/-- The revocations of a grant and the grant itself (R47, R48). -/
theorem performGrant_frame (s : State) (p : Port) (r : LeaseRequest) (revoked : List SlotNo) :
    LeaseFrame s (s.performGrant p r revoked).1 := by
  have key := foldl_frame (fun t i => t.revoke i (some p)) (fun t i => revoke_frame t i (some p)) revoked s
  unfold State.performGrant
  simp only []
  split
  · exact key.trans (onSlot_frame _ _ _)
  · exact key

theorem record_frame (s : State) (p : Port) (o : LeaseOperation) (r : LeaseResult) (h : Option Handle) :
    LeaseFrame s (s.record p o r h) := onLease_frame s p _

theorem unwait_frame (s : State) (p : Port) : LeaseFrame s (s.unwait p) :=
  (waitList_frame s _).trans (onLease_frame _ p _)

theorem park_frame (s : State) (p : Port) (r : LeaseRequest) : LeaseFrame s (s.park p r) :=
  ((waitList_frame s (joinWaitList s.precedence p s.waitList)).trans (parkings_frame _ (s.parkings + 1))).trans
    ((onLease_frame _ p _).trans (record_frame _ p .request .waiting none))

/-- The evaluation of one waiting request (R55, R56). -/
theorem evaluateOne_frame (s : State) (p : Port) : LeaseFrame s (s.evaluateOne p).1 := by
  unfold State.evaluateOne
  split
  · exact .refl s
  · split
    · exact .refl s
    · exact .refl s
    · rename_i w _ _ revoked _
      have key := performGrant_frame s p w.request revoked
      split
      · rename_i t h heq
        rw [heq] at key
        exact ((key.trans (unwait_frame _ _)).trans (record_frame _ _ _ _ _)).trans (post_frame _ _ _)
      · rename_i t heq
        rw [heq] at key
        exact key

theorem evaluationPass_frame (s : State) : LeaseFrame s s.evaluationPass.1 := by
  unfold State.evaluationPass
  generalize s.waitList = ps
  suffices h : ∀ (acc : State × Bool), LeaseFrame s acc.1 → LeaseFrame s (ps.foldl (fun (acc : State × Bool) p =>
      ((acc.1.evaluateOne p).1, acc.2 || (acc.1.evaluateOne p).2)) acc).1 from h (s, false) (.refl s)
  induction ps with
  | nil => exact fun _ h => h
  | cons p rest ih => exact fun acc h => ih _ (h.trans (evaluateOne_frame _ _))

theorem evaluationPasses_frame (n : Nat) (s : State) : LeaseFrame s (State.evaluationPasses n s) := by
  induction n generalizing s with
  | zero => exact .refl s
  | succ n ih =>
    unfold State.evaluationPasses
    split
    · exact (evaluationPass_frame s).trans (ih _)
    · exact evaluationPass_frame s

/-- The evaluation of the wait list (R54). -/
theorem evaluateWaitList_frame (s : State) : LeaseFrame s s.evaluateWaitList := evaluationPasses_frame _ s

/-- The departure of an entry at a completion, once it is gone from the age order (R125). -/
theorem departed_frame (s : State) (e : Entry) : LeaseFrame s (s.departed e) := by
  have key := (((onSlot_frame s e.handle.slot Slot.leave).trans (freeingCheck_frame _ e.handle.slot)).trans
    (signalDeparture_frame _)).trans (completeMarkers_frame _ e.port)
  unfold State.departed
  simp only []
  split
  · exact key.trans (evaluateWaitList_frame _)
  · exact key

/-- The Lease Manager's work at a frame start (R34). -/
theorem passFrame_frame (s : State) : LeaseFrame s s.passFrame := by
  have table : LeaseFrame s { s with table := Vector.ofFn fun i => s.table[i].passFrame } := by
    constructor <;> intros <;> first | rfl | exact Nat.le_refl _ | assumption
  have key := table.trans (foldl_frame State.freeingCheck freeingCheck_frame allSlots _)
  unfold State.passFrame
  simp only []
  split
  · exact key.trans (evaluateWaitList_frame _)
  · exact key

/-- The revocations of a detach (R25). -/
theorem revokeOwned_frame (s : State) (p : Port) : LeaseFrame s (s.revokeOwned p) :=
  foldl_frame (fun t i => t.revoke i none) (fun t i => revoke_frame t i none) _ s

/-- A REQUEST (R41). -/
theorem request_frame (s : State) (p : Port) : LeaseFrame s (s.request p) := by
  unfold State.request
  split
  · exact record_frame _ _ _ _ _
  split
  · exact record_frame _ _ _ _ _
  split
  · exact record_frame _ _ _ _ _
  · rename_i r _
    split
    · exact record_frame _ _ _ _ _
    split
    · split
      · exact park_frame _ _ _
      · exact record_frame _ _ _ _ _
    · split
      · exact park_frame _ _ _
      · exact record_frame _ _ _ _ _
    · rename_i revoked _
      have key := performGrant_frame s p r revoked
      split
      · rename_i t h heq
        rw [heq] at key
        have k := key.trans (record_frame t p .request .granted (some h))
        simp only []
        split
        · exact k
        · exact k.trans (evaluateWaitList_frame _)
      · rename_i t heq
        rw [heq] at key
        exact key

/-- The other lease operations and the timeout of a waiting request (R50, R51, R52, R57). -/
theorem release_frame (s : State) (p : Port) (h : Handle) : LeaseFrame s (s.release p h) := by
  unfold State.release
  split
  · exact record_frame _ _ _ _ _
  · exact (onSlot_frame s _ _).trans (record_frame _ _ _ _ _)

theorem setVisible_frame (s : State) (p : Port) (h : Handle) (v : Bool) : LeaseFrame s (s.setVisible p h v) := by
  unfold State.setVisible
  split
  · exact record_frame _ _ _ _ _
  · split
    · exact (onSlot_frame s _ _).trans (record_frame _ _ _ _ _)
    · exact record_frame _ _ _ _ _

theorem cancel_frame (s : State) (p : Port) : LeaseFrame s (s.cancel p) := by
  unfold State.cancel
  split
  · exact record_frame _ _ _ _ _
  split
  · exact (unwait_frame s p).trans (record_frame _ _ _ _ _)
  · exact record_frame _ _ _ _ _

theorem timeoutLease_frame (s : State) (p : Port) : LeaseFrame s (s.timeoutLease p) := by
  unfold State.timeoutLease
  split
  · exact ((unwait_frame s p).trans (record_frame _ _ _ _ _)).trans (post_frame _ _ _)
  · exact .refl s

theorem leaseOp_frame (s : State) (p : Port) (o : LeaseOpWord) : LeaseFrame s (s.leaseOp p o) := by
  unfold State.leaseOp
  split
  · exact request_frame s p
  split
  · exact release_frame s p _
  split
  · exact setVisible_frame s p _ _
  · exact cancel_frame s p

end Sys2Proof.Machine
end

