-- ==== Sys2Proof/Laws/Events.lean ====
section
/-! SUPPORT. What the drawing events and the host's accesses leave: the configuration logic, the channel, the Composer,
surface memory and the queue of waiting commands. -/

namespace Sys2Proof.Machine

/-- `t` agrees with `s` on the configuration logic, the straps, the clear pass, the channel, the Composer, surface memory,
the count of free values and the waiting commands. -/
structure EventFrame (s t : State) : Prop where
  deviceReset : t.deviceReset = s.deviceReset
  globalState : t.globalState = s.globalState
  config : t.config = s.config
  commitResult : t.commitResult = s.commitResult
  memorySize : t.memorySize = s.memorySize
  precedence : t.precedence = s.precedence
  clearPosition : t.clearPosition = s.clearPosition
  channel : t.channel = s.channel
  alternation : t.alternation = s.alternation
  composer : t.composer = s.composer
  memory : t.memory = s.memory
  freeCount : t.freeCount = s.freeCount
  pending : t.pending = s.pending

theorem EventFrame.refl (s : State) : EventFrame s s := by constructor <;> rfl

theorem EventFrame.trans {s t u : State} (a : EventFrame s t) (b : EventFrame t u) : EventFrame s u where
  deviceReset := b.deviceReset.trans a.deviceReset
  globalState := b.globalState.trans a.globalState
  config := b.config.trans a.config
  commitResult := b.commitResult.trans a.commitResult
  memorySize := b.memorySize.trans a.memorySize
  precedence := b.precedence.trans a.precedence
  clearPosition := b.clearPosition.trans a.clearPosition
  channel := b.channel.trans a.channel
  alternation := b.alternation.trans a.alternation
  composer := b.composer.trans a.composer
  memory := b.memory.trans a.memory
  freeCount := b.freeCount.trans a.freeCount
  pending := b.pending.trans a.pending

/-- The Lease Manager's work keeps all of it. -/
theorem LeaseFrame.event {s t : State} (h : LeaseFrame s t) : EventFrame s t where
  deviceReset := h.deviceReset
  globalState := h.globalState
  config := h.config
  commitResult := h.commitResult
  memorySize := h.memorySize
  precedence := h.precedence
  clearPosition := h.clearPosition
  channel := h.channel
  alternation := h.alternation
  composer := h.composer
  memory := h.memory
  freeCount := h.freeCount
  pending := h.pending

/-! ### The named updates -/

theorem onPort_event (s : State) (p : Port) (f : HostPort → HostPort) : EventFrame s (s.onPort p f) := by
  constructor <;> rfl

theorem onEngine_event (s : State) (f : Engine → Engine) : EventFrame s (s.onEngine f) := by constructor <;> rfl

theorem onBuffer_event (s : State) (f : Buffer → Buffer) : EventFrame s (s.onBuffer f) := by constructor <;> rfl

theorem onSlot_event (s : State) (i : SlotNo) (f : Slot → Slot) : EventFrame s (s.onSlot i f) := by
  constructor <;> rfl

/-! ### The ways a command is taken -/

/-- A write access is ignored or is its event. -/
theorem writeAccess_cases (s : State) (p : Port) (f : State → State) :
    writeAccess s p f = s ∨ (s.ignoresAccess p = false ∧ writeAccess s p f = f s) := by
  unfold writeAccess
  split
  · exact Or.inl rfl
  · exact Or.inr ⟨Bool.eq_false_of_not_eq_true ‹_›, rfl⟩

/-- An acting read changes the returned word, and where it is taken it is its event. -/
theorem readAccess_cases (s : State) (p : Port) (w : Word) (f : State → State) :
    readAccess s p w f = s.onPort p (fun hp => { hp with readData := 0 }) ∨
      (s.ignoresAccess p = false ∧ readAccess s p w f = (f s).onPort p fun hp => { hp with readData := w }) := by
  unfold readAccess
  split
  · exact Or.inl rfl
  · exact Or.inr ⟨Bool.eq_false_of_not_eq_true ‹_›, rfl⟩

/-- An event of the part's own is not taken, or is its event. -/
theorem ownEvent_cases (s : State) (f : State → State) :
    (s.deviceReset = true ∧ ownEvent s f = s) ∨ (s.deviceReset = false ∧ ownEvent s f = f s) := by
  unfold ownEvent
  split
  · exact Or.inl ⟨‹_›, rfl⟩
  · exact Or.inr ⟨Bool.eq_false_of_not_eq_true ‹_›, rfl⟩

/-! ### Host accesses -/

theorem submit_event (s : State) (p : Port) (u : Submission) : EventFrame s (s.submit p u) := by
  unfold State.submit
  split
  · exact onPort_event _ _ _
  split
  · exact onPort_event _ _ _
  split <;> exact onPort_event _ _ _

theorem abort_event (s : State) (p : Port) : EventFrame s (s.abort p) :=
  ((onPort_event s p _).trans (onEngine_event _ _)).trans (onPort_event _ _ _)

theorem restartDataTimer_event (s : State) (p : Port) (e : EngineState) : EventFrame s (s.restartDataTimer p e) := by
  unfold State.restartDataTimer
  split
  · exact onEngine_event _ _
  · exact .refl s

theorem pushUpload_event (s : State) (p : Port) (w : Word) : EventFrame s (s.pushUpload p w) := by
  unfold State.pushUpload
  split
  · exact (onPort_event s p _).trans (restartDataTimer_event _ _ _)
  · exact onPort_event _ _ _

theorem popReadback_event (s : State) (p : Port) : EventFrame s (s.popReadback p) := by
  unfold State.popReadback
  split
  · exact onPort_event _ _ _
  · exact (onPort_event s p _).trans (restartDataTimer_event _ _ _)

/-- A detach (R174). -/
theorem detach_event (s : State) (p : Port) : EventFrame s (s.detach p) := by
  have h1 : EventFrame s (State.onLease { s with waitList := s.waitList.erase p } p fun _ => .reset) :=
    ((waitList_frame s _).trans (onLease_frame _ p _)).event
  have h2 := h1.trans (onBuffer_event _ fun b => { b with items := dropMarkers p b.items })
  have h3 := h2.trans (revokeOwned_frame _ p).event
  have skips : ∀ t : State, EventFrame t { t with skips := t.skips.set p 0 } := fun t => by constructor <;> rfl
  have h4 := (h3.trans (skips _)).trans (onEngine_event _ fun e =>
    if e.current.any (fun (a : ActiveCommand) => a.port == p) then e.ended else e)
  have h5 := h4.trans (onPort_event _ p fun hp => { HostPort.reset with resetPin := hp.resetPin })
  unfold State.detach
  simp only []
  split
  · exact h5
  · exact h5.trans (evaluateWaitList_frame _).event

/-! ### Drawing events -/

theorem endDone_event (s : State) (p : Port) (c : DrawCommand) : EventFrame s (s.endDone p c) := by
  unfold State.endDone
  simp only []
  split
  · exact (((post_frame s p _).event).trans (onPort_event _ p _)).trans (onEngine_event _ _)
  · exact (onPort_event s p _).trans (onEngine_event _ _)

theorem endFault_event (s : State) (p : Port) (c : DrawCommand) (code : FaultCode) (n : Nat) :
    EventFrame s (s.endFault p c code n) :=
  ((post_frame s p _).event.trans (onPort_event _ p _)).trans (onEngine_event _ _)

theorem startCommand_event (s : State) (p : Port) (c : DrawCommand) : EventFrame s (s.startCommand p c) := by
  unfold State.startCommand
  split
  · exact endFault_event _ _ _ _ _
  · split
    · exact endDone_event _ _ _
    · exact onEngine_event _ _

theorem choiceEvent_event (s : State) : EventFrame s s.choiceEvent := by
  have arb : ∀ (t : State) (k : PerPort Nat) (p : Port), EventFrame t { t with skips := k, pointer := p } :=
    fun t _ _ => by constructor <;> rfl
  unfold State.choiceEvent
  split
  · split
    · split
      · exact ((arb s _ _).trans (onPort_event _ _ _)).trans (startCommand_event _ _ _)
      · exact .refl s
    · exact .refl s
  · exact .refl s

theorem fenceTake_event (s : State) (p : Port) : EventFrame s (s.fenceTake p) := by
  unfold State.fenceTake
  split
  · split
    · exact ((onPort_event s p _).trans (onBuffer_event _ _)).trans (completeMarkers_frame _ _).event
    · exact .refl s
  · exact .refl s

theorem finishWriting_event (s : State) (a : ActiveCommand) (q : SpanPosition) (n : Nat) :
    EventFrame s (s.finishWriting a q n) := (onPort_event s a.port _).trans (onEngine_event _ _)

theorem spanPost_event (s : State) : EventFrame s s.spanPost := by
  unfold State.spanPost
  split
  · split
    · split
      · unfold State.postSpan
        split
        · exact endFault_event _ _ _ _ _
        · exact onEngine_event _ _
        · exact (onBuffer_event s _).trans (finishWriting_event _ _ _ _)
        · exact ((onBuffer_event s _).trans (onSlot_event _ _ _)).trans (finishWriting_event _ _ _ _)
      · exact .refl s
    · exact .refl s
  · exact .refl s

theorem raiseRead_event (s : State) (n : BlockName) : EventFrame s (s.raiseRead n) := by
  unfold State.raiseRead
  split <;> exact (onBuffer_event s _).trans (onEngine_event _ _)

theorem forwardedRead_event (s : State) : EventFrame s s.forwardedRead := by
  unfold State.forwardedRead
  split
  · split
    · split
      · split
        · unfold State.readSpan
          split
          · split
            · exact raiseRead_event _ _
            · exact endFault_event _ _ _ _ _
          · exact raiseRead_event _ _
        · exact .refl s
      · exact .refl s
    · exact .refl s
  · exact .refl s

theorem uploadPop_event (s : State) : EventFrame s s.uploadPop := by
  unfold State.uploadPop
  split
  · split
    · split
      · unfold State.popUpload
        split
        · split
          · exact onEngine_event _ _
          · exact .refl s
        · exact (onPort_event s _ _).trans (onEngine_event _ _)
      · exact .refl s
    · exact .refl s
  · exact .refl s

theorem readbackPush_event (s : State) : EventFrame s s.readbackPush := by
  unfold State.readbackPush
  split
  · split
    · split
      · unfold State.pushReadback
        split
        · exact (onPort_event s _ _).trans (onEngine_event _ _)
        · split
          · exact onEngine_event _ _
          · exact .refl s
      · exact .refl s
    · exact .refl s
  · exact .refl s

theorem spanSkip_event (s : State) : EventFrame s s.spanSkip := by
  unfold State.spanSkip
  split
  · split
    · split
      · exact finishWriting_event _ _ _ _
      · exact .refl s
    · exact .refl s
  · exact .refl s

theorem markEvent_event (s : State) : EventFrame s s.markEvent := by
  unfold State.markEvent
  split
  · split
    · exact endFault_event _ _ _ _ _
    · exact .refl s
  · exact .refl s

theorem commandEnd_event (s : State) : EventFrame s s.commandEnd := by
  unfold State.commandEnd
  split
  · split
    · exact endDone_event _ _ _
    · exact .refl s
  · exact .refl s

theorem timeoutData_event (s : State) : EventFrame s s.timeoutData := by
  unfold State.timeoutData
  split
  · split
    · exact endFault_event _ _ _ _ _
    · exact .refl s
  · exact .refl s

/-! ### Completions at the buffer -/

theorem completeUnderfill_event (s : State) (m : Block) : EventFrame s (s.completeUnderfill m) := by
  unfold State.completeUnderfill
  split
  · split
    · exact (onBuffer_event s _).trans (departed_frame _ _).event
    · exact onBuffer_event _ _
  · exact .refl s

theorem completeBlockWrite_event (s : State) : EventFrame s s.completeBlockWrite := by
  unfold State.completeBlockWrite
  split
  · exact (onBuffer_event s _).trans (departed_frame _ _).event
  · exact .refl s

end Sys2Proof.Machine
end

