-- ==== Sys2Proof/Tests/Slice0.lean ====
section
/-! SUPPORT. Tests: ill-formed commands that WellFormed refuses, the manual's worked examples one step at a time, and a
witness for the hypotheses of each statement that has some. -/

namespace Sys2Proof.Tests

set_option Elab.async false

open Sys2Proof.Machine Sys2Proof.Claims

/-! ### Small states -/

/-- In RUN with the surface, the precedences and the quotas of section 11.1. -/
def running : State :=
  { State.reset with
    globalState := .run
    config := { ConfigBlock.default with width := 800, height := 480, quota := ⟨4, 16, 8, 4⟩ }
    precedence := ⟨0, 2, 3, 1⟩
    composer := { Composer.reset with running := true } }

/-- A window with every right, visible, and no key. -/
def win (p : Port) (layer : Layer) (x y w h : Nat) : Window := ⟨p, layer, ⟨x, y, w, h⟩, ⟨true, true, true⟩, true, none⟩

/-- The state with a slot in the given state, at generation 1. -/
def put (s : State) (i : SlotNo) (st : SlotState) (outstanding : Nat) : State := s.onSlot i fun _ => ⟨st, 1, outstanding⟩

/-- The state with a request staged at a port: WAIT, PREEMPT and every right. -/
def ask (s : State) (p : Port) (layer : BitVec 3) (x y w h : BitVec 12) (wait preempt : Bool) (timeout : BitVec 16) : State :=
  s.onPort p fun hp => { hp with lease :=
    ⟨layer, true, true, true, x, y, w, h, 0, false, true, timeout, wait, preempt⟩ }

/-- The first leases of section 11.2 as they stand: 0/1 and 2/1 of P1, 1/1 of P0. -/
def leased : State :=
  put (put (put running 0 (.held (win .p1 0 0 0 800 480)) 0) 1 (.held (win .p0 3 0 440 800 40)) 0) 2
    (.held (win .p1 2 0 0 320 240)) 0

/-- The mask of the pixel positions from `n` on. -/
def maskFrom (n : Nat) : PixelMask := Vector.ofFn fun i => decide (n ≤ i.val)

/-- An entry of P1's window 2/1 in row 4. -/
def pix (column : Nat) (mask : PixelMask) (st : EntryState) : Entry :=
  ⟨⟨2, 4, column⟩, mask, Vector.replicate 16 0x07E0, ⟨2, 1⟩, .p1, st⟩

/-- P1's FILL of section 11.3, with tag 7. -/
def fill7 : DrawCommand := ⟨7, true, ⟨2, 1⟩, ⟨8, 0, 312, 240⟩, .fill 12 0xFFFF 0x07E0⟩

/-- A command of P1 in the engine, at a span. -/
def active (c : DrawCommand) (q : Option SpanPosition) : ActiveCommand :=
  { port := .p1, command := c, layer := 2, sourceLayer := 2, clip := ⟨0, 0, c.region.width, c.region.height⟩,
    rows := .downward, blocks := .rightward, position := q, work := .empty, uploadCarry := none, readbackCarry := none,
    dataTimer := none, endMark := false, endDue := false, spansCompleted := 97 }

/-- The first leases with a command of P1 in the engine, in state `st`. -/
def working (a : ActiveCommand) (st : EngineState) : State := { leased with engine := ⟨st, some a, false, false⟩ }

/-- The state with places in the age order. -/
def holding (s : State) (items : List AgeItem) : State := s.onBuffer fun b => { b with items := items }

/-- The state that a command answers; the state itself where it answers none. -/
def after (c : Instr) (s : State) : State :=
  match exec c s with
  | .next t => t
  | _ => s

/-- Whether a command answers a next state. -/
def runs (c : Instr) (s : State) : Bool :=
  match exec c s with
  | .next _ => true
  | _ => false

theorem exec_eq_after {c : Instr} {s : State} (h : runs c s = true) : exec c s = .next (after c s) := by
  unfold runs at h
  unfold after
  split at h
  · next t e => rw [e]
  · cases h

/-! ### Ill-formed commands -/

theorem test_wellFormed_refuses_own_row : WellFormed (.registerWrite .p0 0xC0 5) = false := by decide
theorem test_wellFormed_refuses_abort_write : WellFormed (.registerWrite .p0 0x7C 1) = false := by decide
theorem test_wellFormed_refuses_unmapped_write : WellFormed (.registerWrite .p0 0xB0 5) = false := by decide
theorem test_wellFormed_refuses_mapped_offset : WellFormed (.badOffset .p0 (.unmappedRead 0x68)) = false := by decide
theorem test_wellFormed_takes_staging_write : WellFormed (.registerWrite .p0 0x04 5) = true := by decide
theorem test_wellFormed_takes_narrow_access : WellFormed (.badOffset .p0 (.narrowRead 0x68)) = true := by decide

/-! ### Worked examples: configuration and registers -/

/-- R8: writing 2100 to WIDTH stores 52. -/
theorem test_config_write_keeps_low_bits :
    (after (.configWrite .p0 .width 2100) State.reset).config.width = 52 := by decide +kernel

/-- Section 11.1: quotas that sum to 40 are refused with BAD_QUOTA, and those that sum to 32 taken. -/
theorem test_commit_bad_quota :
    (after (.commit .p1 0) (after (.configWrite .p1 (.quota .p1) 16) State.reset)).commitResult = .badQuota := by
  decide +kernel

theorem test_commit_enters_clearing :
    (after (.commit .p0 0) { running with globalState := .setup }).globalState = .clearing := by decide +kernel

/-- R10: MSIZE low is 16 MiB, which 1920 × 1200 exceeds. -/
theorem test_commit_too_large :
    (after (.commit .p0 0) { State.reset with config := { ConfigBlock.default with width := 1920, height := 1200 } }).commitResult =
      .tooLarge := by decide +kernel

/-- Section 12.5: PORT_STATUS reads 8 and NOTICE_ENABLE 0x3BF6 after device reset. -/
theorem test_reads_after_reset : readValue State.reset .p2 0x68 = 8 ∧ readValue State.reset .p2 0x84 = 0x3BF6 := by
  decide +kernel

/-- Section 12.8: the straps B = 1, A = 0 give precedence 2. -/
theorem test_straps_sampled :
    (after (.deviceResetEnd ⟨⟨⟨false, false⟩, ⟨false, true⟩, ⟨true, true⟩, ⟨true, false⟩⟩, true⟩) (after .deviceReset State.reset)).precedence =
      ⟨0, 2, 3, 1⟩ := by decide +kernel

/-- R188: a write of 0x00F0_0805 to CMD_REGION_XY stores x = 2053 and y = 240. -/
theorem test_region_write : (((after (.registerWrite .p0 0x04 0x00F00805) State.reset).ports.p0.command.x,
    (after (.registerWrite .p0 0x04 0x00F00805) State.reset).ports.p0.command.y)) = (2053, 240) := by decide +kernel

/-- Section 12.5: a COMMAND_FAULT of tag 7, WINDOW_LOST after 97 spans, reads 0x0007_0007 and 0x0061_0003. -/
theorem test_fault_notice_words :
    noticeWord0 [.commandFault 7 .windowLost 97] = 0x00070007 ∧ noticeWord1 [.commandFault 7 .windowLost 97] = 0x00610003 := by
  decide +kernel

/-- R162: a narrow access at a register's offset is BAD_OFFSET. -/
theorem test_narrow_access : (after (.badOffset .p3 (.narrowWrite 0x30)) State.reset).ports.p3.accessError = .badOffset := by
  decide +kernel

/-! ### Worked examples: leases -/

/-- Section 11.2: P2's region 600, 0, 200, 100 on L0 overlaps 0/1. -/
theorem test_request_conflict :
    ((after (.request .p2) (ask leased .p2 0 600 0 200 100 false false 0)).leaseSlots.p2.record.result) = .conflict := by
  decide +kernel

/-- Section 11.2: 460 + 40 exceeds 480. -/
theorem test_request_bad_region :
    ((after (.request .p2) (ask leased .p2 3 0 460 800 40 false false 0)).leaseSlots.p2.record.result) = .badRegion := by
  decide +kernel

/-- Section 11.3: the entries that a preemption of 2/1 finds: one FILLING and two OPEN. -/
def filling : State :=
  ask (holding (put leased 2 (.held (win .p1 2 0 0 320 240)) 3)
    [.entry (pix 0 (maskFrom 8) .filling), .entry (pix 1 (maskFrom 0) .opened), .entry (pix 2 (maskFrom 0) .opened)]) .p0 2 0 0 160 64
    false true 0

/-- Section 11.3: the preemption leaves slot 2 REVOKED with one entry outstanding and that entry VOID. -/
theorem test_preemption_voids :
    (after (.request .p0) filling).slot 2 = ⟨.revoked (win .p1 2 0 0 320 240) false, 1, 1⟩ ∧
      (after (.request .p0) filling).buffer.entries = [pix 0 (maskFrom 8) .voided] := by decide +kernel

/-- Section 11.3: the preempting request holds slot 3 at its next generation, and P1 is told. -/
theorem test_preemption_grants :
    ((after (.request .p0) filling).slot 3).heldWindow = some (win .p0 2 0 0 160 64) ∧
      (after (.request .p0) filling).ports.p1.notices = [.windowRevoked ⟨2, 1⟩ .p0] := by decide +kernel

theorem test_release_drains :
    (after (.release .p1 ⟨2, 1⟩) leased).slot 2 = ⟨.draining (win .p1 2 0 0 320 240) false, 1, 0⟩ := by decide +kernel

theorem test_set_visible_of_another_port :
    (after (.setVisible .p1 ⟨1, 1⟩ false) leased).leaseSlots.p1.record = ⟨.setVisible, .notOwner, some ⟨1, 1⟩⟩ := by decide +kernel

theorem test_cancel_nothing_waiting : (after (.cancel .p1) leased).leaseSlots.p1.record.result = .nothingWaiting := by
  decide +kernel

/-- P2's request parked with a timeout of 20 ms (R57). -/
def parked : State := after (.request .p2) (ask leased .p2 0 600 0 200 100 true false 20)

theorem test_parked_remaining_time : parked.remainingTime .p2 = some 20000 ∧ parked.waitList = [.p2] := by decide +kernel

/-- The same request when its time has run down to `n`. -/
def parkedFor (n : Nat) : State := parked.onLease .p2 fun l => { l with waiting := l.waiting.map fun w => { w with remaining := some n } }

theorem test_lease_timeout : (after (.leaseTimeout .p2) (parkedFor 0)).leaseSlots.p2 = ⟨none, ⟨.request, .timedOut, none⟩⟩ := by
  decide +kernel

/-- R57: with time left no timeout event is taken. -/
theorem test_lease_timeout_early : after (.leaseTimeout .p2) (parkedFor 1) = parkedFor 1 := by decide +kernel

/-- R38, R53: P0, of smaller precedence number, parks after P2 and stands ahead of it with the later park time. -/
def parkedTwice : State := after (.request .p0) (ask (put parked 3 (.held (win .p3 1 0 0 16 16)) 0) .p0 1 0 0 16 16 true false 0)

theorem test_park_times : parkedTwice.waitList = [.p0, .p2] ∧
    parkedTwice.leaseSlots.p2.waiting.map WaitingRequest.parkTime = some 0 ∧
    parkedTwice.leaseSlots.p0.waiting.map WaitingRequest.parkTime = some 1 := by decide +kernel

/-- R54, R56: once slot 3 is FREE, the next evaluation grants P0's request slot 3 and leaves P2's waiting. -/
theorem test_evaluation_grants : let t := State.evaluateWaitList (put parkedTwice 3 .free 0)
    t.waitList = [.p2] ∧ t.leaseSlots.p0 = ⟨none, ⟨.request, .granted, some ⟨3, 2⟩⟩⟩ ∧ t.ports.p0.notices = [.leaseGranted ⟨3, 2⟩] := by
  decide +kernel

/-! ### Worked examples: commands, spans and pixels -/

/-- Section 4.4: at choice 3 the skip counts are 0, 2, 2, 2 with STARVE_LIMIT 2 and the pointer at P0: P1 is picked, and the counts
become 1, 0, 3, 3. -/
def contended : State :=
  { running with
    config := { running.config with starveLimit := 2 }, skips := ⟨0, 2, 2, 2⟩, pointer := .p0
    ports := .const { HostPort.reset with queue := [.draw fill7] } }

theorem test_starvation_pick : contended.pick = some .p1 ∧ (after .choiceEvent contended).skips = ⟨1, 0, 3, 3⟩ := by decide +kernel

/-- Section 5.3: a FILL clipped to x 10 to 41, y 100 to 101 has six spans. -/
def fill6 : ActiveCommand := active { fill7 with region := ⟨10, 100, 32, 2⟩ } none

theorem test_fill_spans : (List.range 7).map (nthSpan fill6) = [some ⟨100, 0⟩, some ⟨100, 1⟩, some ⟨100, 2⟩, some ⟨101, 0⟩,
    some ⟨101, 1⟩, some ⟨101, 2⟩, none] := by decide +kernel

/-- Section 5.11: an overlapping COPY further right works its spans from right to left. -/
def copy5 : DrawCommand := ⟨0, false, ⟨2, 5⟩, ⟨20, 0, 30, 1⟩, .copy 12 0xFFFF ⟨2, 5⟩ 10 0 none⟩

theorem test_overlapping_copy : (running.onSlot 2 fun _ => ⟨.held (win .p1 1 0 0 64 4), 5, 0⟩).startChecks .p1 copy5 =
    .ok { active copy5 (some ⟨0, 3⟩) with layer := 1, sourceLayer := 1, blocks := .leftward, spansCompleted := 0 } := by
  decide +kernel

/-- R92: rop 6 is S XOR D, and rop 1 is NOT (S OR D). -/
theorem test_rops : applyRop 6 0x0F0F 0x00FF = 0x0FF0 ∧ applyRop 1 0x0F0F 0x00FF = 0xF000 := by decide +kernel

/-- R93: a plane mask keeps D on its clear planes. -/
theorem test_plane_mask : writtenValue 12 0x00FF 0x1234 0xABCD = 0xAB34 := by decide +kernel

/-- Section 5.6: the span of 11 pixels with 10 gathered takes the low half of its next word; the high half is the carry. -/
def upload21 : ActiveCommand :=
  { active ⟨0, false, ⟨2, 1⟩, ⟨5, 10, 21, 2⟩, .upload 12 0xFFFF none⟩ (some ⟨10, 0⟩) with
    work := { SpanWork.empty with gathered := List.replicate 10 0 } }

/-- The engine takes the word that carries pixels 10 and 11. -/
def uploading : State := (working upload21 .run).onPort .p1 fun hp => { hp with upload := [0x000B000A, 0x000D000C] }

theorem test_upload_carry : (after .uploadPop uploading).engine.current =
    some { upload21 with work := { upload21.work with gathered := List.replicate 10 0 ++ [10] }, uploadCarry := some 11 } := by
  decide +kernel

/-- Section 5.7: with pixel 2 carried and pixels 3 and 4 read, word 1 is 2, 3 and pixel 4 is the new carry. -/
def readback3 : ActiveCommand :=
  { active ⟨0, false, ⟨2, 1⟩, ⟨14, 0, 3, 3⟩, .readback⟩ (some ⟨1, 0⟩) with
    work := { SpanWork.empty with stream := [3, 4] }, readbackCarry := some 2 }

theorem test_readback_word : (after .readbackPush (working readback3 .run)).ports.p1.readback = [0x00030002] ∧
    (after .readbackPush (working readback3 .run)).engine.current.bind ActiveCommand.readbackCarry = some 4 := by decide +kernel

/-- Section 11.3: the post at row 4, column 17 after the preemption is refused, and the FILL ends with WINDOW_LOST, 97 spans. -/
theorem test_post_lost : (after .spanPost ((working (active fill7 (some ⟨4, 17⟩)) .run).onSlot 2 fun _ =>
    ⟨.revoked (win .p1 2 0 0 320 240) false, 1, 0⟩)).ports.p1.notices = [.commandFault 7 .windowLost 97] := by decide +kernel

theorem test_post_allocates : ((after .spanPost (working (active fill7 (some ⟨4, 0⟩)) .run)).buffer.entries) =
    [{ pix 0 (maskFrom 8) .opened with data := (active fill7 none).spanValues ⟨4, 0⟩ }] := by decide +kernel

theorem test_abort_counts : (after (.abort .p1) contended).ports.p1.notices = [.queueAborted 1] := by decide +kernel

theorem test_data_timeout : (after .dataTimeout (working { upload21 with dataTimer := some 0 } .waitData)).ports.p1.notices =
    [.commandFault 0 .dataTimeout 97] := by decide +kernel

/-- R103: a push has restarted the timer, so that no timeout event is taken at that moment. -/
theorem test_data_timeout_after_push :
    let s := after (.uploadPush .p1 0) (working { upload21 with dataTimer := some 0 } .waitData)
    after .dataTimeout s = s ∧ s.dataTimer = some 1000 := by decide +kernel

/-- R106: after an ABORT the mark event ends the command ABORTED, its last span finished or not. -/
theorem test_abort_then_mark : (after .markEvent (after (.abort .p1) (working (active fill7 none) .run))).ports.p1.notices =
    [.queueAborted 0, .commandFault 7 .aborted 97] := by decide +kernel

/-- R106: an end event due at the ABORT and taken before the mark event has ended the command DONE, and none remains to be marked. -/
theorem test_abort_then_end :
    let t := after .commandEnd (after (.abort .p1) (working (active fill7 none) .run))
    t.ports.p1.notices = [.queueAborted 0, .commandDone 7] ∧ after .markEvent t = t := by decide +kernel

/-- R79: the last span is posted after the ABORT, and the command ends ABORTED at its next step instead of DONE. -/
theorem test_abort_then_last_post :
    let t := after .spanPost (after (.abort .p1) (working { active fill7 (some ⟨4, 0⟩) with clip := ⟨0, 4, 8, 1⟩ } .run))
    (t.engine.current.map ActiveCommand.finished) = some true ∧ after .commandEnd t = t ∧ after .commandEnd (after (.abort .p1) t) =
      after (.abort .p1) t ∧ (after .markEvent t).ports.p1.notices = [.queueAborted 0, .commandFault 7 .aborted 98] := by
  decide +kernel

/-- A FENCE with no entry of its port completes in its take (R77). -/
theorem test_fence_at_once :
    (after (.fenceTake .p1) (leased.onPort .p1 fun hp => { hp with queue := [.fence 21] })).ports.p1.notices = [.fenceDone 21] := by
  decide +kernel

/-! ### Worked examples: the buffer, the channel and the Composer -/

/-- Section 11.3: the VOID entry's underfill completes, the slot has nothing outstanding and stays REVOKED, and FENCE 21 is done. -/
def voided : State :=
  { holding (put leased 2 (.revoked (win .p1 2 0 0 320 240) false) 1) [.entry (pix 0 (maskFrom 8) .voided), .marker ⟨.p1, 21⟩] with
    channel := some ⟨.blockRead, ⟨2, 4, 0⟩, .drain⟩ }

theorem test_void_leaves : (after .underfillCompletion voided).slot 2 = ⟨.revoked (win .p1 2 0 0 320 240) false, 1, 0⟩ ∧
    (after .underfillCompletion voided).buffer = { Buffer.reset with voided := 1 } ∧
    (after .underfillCompletion voided).ports.p1.notices = [.fenceDone 21] := by decide +kernel

/-- A block write of the drain in flight, for an entry of 2/1. -/
def writing : State :=
  { holding (put leased 2 (.held (win .p1 2 0 0 320 240)) 1) [.entry (pix 0 (maskFrom 0) .writing)] with
    channel := some ⟨.blockWrite (Vector.replicate 16 0x07E0), ⟨2, 4, 0⟩, .drain⟩ }

/-- R2: block column 0 of row 4 of L2 begins at byte 2 × 2 × 800 × 480 + 4 × 2 × 800. -/
theorem test_block_written : (after .blockWriteCompletion writing).memory.read 1542400 = some 0xE0 ∧
    (after .blockWriteCompletion writing).memory.read 1542431 = some 0x07 ∧
    (after .blockWriteCompletion writing).memory.read 1542432 = none := by decide +kernel

/-- R140: after device reset the engine read is served before the drain. -/
def contending : State :=
  { holding leased [.entry (pix 0 (maskFrom 8) .closed)] with
    buffer := { Buffer.reset with items := [.entry (pix 0 (maskFrom 8) .closed)], engineRead := some ⟨⟨2, 4, 0⟩, false⟩ } }

theorem test_engine_read_first : (after .grantEvent contending).channel.map Access.requester = some .engineRead := by
  decide +kernel

theorem test_drain_next : (after .grantEvent { contending with alternation := .engineRead }).channel =
    some ⟨.blockRead, ⟨2, 4, 0⟩, .drain⟩ := by decide +kernel

/-- Section 2.7: the display list of the example. -/
def shown : State :=
  let off (w : Window) : Window := { w with visible := false }
  [(0, SlotState.held (win .p1 0 0 0 640 480)), (2, .held { win .p0 3 0 440 640 40 with key := some 0 }),
   (3, .draining (win .p2 2 480 0 160 120) false), (5, .held (off (win .p2 2 480 0 160 120))),
   (6, .held { win .p1 1 0 0 640 440 with key := some 0xF81F }),
   (9, .held { win .p3 3 560 40 80 40 with rights := ⟨true, false, false⟩ }), (11, .held (win .p0 3 0 0 640 40))].foldl
    (fun s e => put s e.1 e.2 0) { running with config := { running.config with width := 640 } }

theorem test_display_list : shown.buildDisplayList.map DisplayItem.slot = [2, 11, 6, 0] := by decide +kernel

theorem test_frame_start_frees : ((after .frameStart shown).slot 3).state = .free ∧
    (after .frameStart shown).ports.p2.notices = [.windowFreed ⟨3, 1⟩] := by decide +kernel

/-- Section 8.5: line 200 fetches 80 blocks; at x = 100 L1 shows 0x07E0, or is transparent at its key. -/
theorem test_fetch_list : (fetchListOf shown.buildDisplayList 640 200).length = 80 := by decide +kernel

/-- A line buffer with one value for block column 6 of L1 and of L0. -/
def lineOf (v w : Pixel) : LineBuffer := ⟨some 200, [(⟨1, 6⟩, Vector.replicate 16 v), (⟨0, 6⟩, Vector.replicate 16 w)]⟩

theorem test_compose : composePixel shown.buildDisplayList (lineOf 0x07E0 0x5555) 9 100 200 = 0x07E0 ∧
    composePixel shown.buildDisplayList (lineOf 0xF81F 0x5555) 9 100 200 = 0x5555 := by decide +kernel

/-- At LEAD with a block of line 0 still to fetch. -/
def late : State := running.onComposer fun c =>
  { c with position := .lead, fetchLine := some 0, fetchList := [⟨0, 1⟩], buffer0 := ⟨some 0, []⟩ }

theorem test_underrun : (after .lineDue late).composer.underruns = 1 ∧ (after .lineDue late).composer.position = .visible 0 := by
  decide +kernel

/-! ### Worked examples: host ports -/

/-- Section 10.2: of three notices offered to a queue holding 15, the first is queued and the others are lost. -/
theorem test_burst : (let hp := { HostPort.reset with notices := List.replicate 15 Notice.leaseTimedOut }
    let t := ((hp.offer (.windowRevoked ⟨2, 7⟩ .p0)).offer (.windowRevoked ⟨3, 1⟩ .p0)).offer (.windowRevoked ⟨8, 4⟩ .p0)
    (t.notices.length, t.lossCount)) = (16, 2) := by decide +kernel

/-- A port with words, notices, an error and a loss. -/
def busy : State := leased.onPort .p1 fun hp =>
  { hp with readback := [5, 6], notices := [.fenceDone 21, .leaseTimedOut], accessError := .fifoFull, lossCount := 1 }

theorem test_readback_pop : (after (.readbackPop .p1) busy).ports.p1.readback = [6] ∧ (after (.readbackPop .p1) busy).ports.p1.readData = 5 := by
  decide +kernel

theorem test_readback_pop_empty : (after (.readbackPop .p0) busy).ports.p0.accessError = .fifoEmpty := by decide +kernel

theorem test_notice_pop : (after (.noticeWord1 .p1) busy).ports.p1.notices = [.leaseTimedOut] := by decide +kernel

theorem test_access_error_clears : (after (.accessError .p1) busy).ports.p1.accessError = .none ∧
    (after (.accessError .p1) busy).ports.p1.readData = 2 := by decide +kernel

theorem test_loss_count_clears : (after (.lossCount .p1) busy).ports.p1.lossCount = 0 ∧
    (after (.lossCount .p1) busy).ports.p1.readData = 1 := by decide +kernel

theorem test_notice_enable_all : readValue (after (.noticeEnable .p1 0x3FFE) busy) .p1 0x84 = 0x3FF6 := by decide +kernel

theorem test_interrupt_line : (after (.intEnable .p1 1) busy).interruptLine .p1 = true := by decide +kernel

theorem test_detach_revokes : ((after (.detach .p1 true) leased).slot 2).state = .revoked (win .p1 2 0 0 320 240) false ∧
    (after (.detach .p1 true) leased).ports.p1 = HostPort.reset := by decide +kernel

theorem test_held_port_ignores : after (.intEnable .p1 1) (after (.portReset .p1 .asserted) busy) =
    after (.portReset .p1 .asserted) busy := by decide +kernel

theorem test_submit_result : (after (.badKind .p1 .kind7) leased).ports.p1.submitResult = .badKind ∧
    (after (.fill .p1 7 true) leased).ports.p1.submitResult = .badField := by decide +kernel

theorem test_fence_queued : (after (.fence .p1 21) leased).ports.p1.queue = [.fence 21] := by decide +kernel

/-! ### Witnesses: for each statement with hypotheses, a state and operands that meet them together -/

/-- A device reset is asserted, with a clear write abandoned. -/
def resetting : State :=
  after .deviceReset { running with globalState := .clearing, channel := some ⟨.blockWrite zeroBlock, ⟨0, 0, 0⟩, .clear⟩ }

/-- In SETUP after reset. -/
theorem setup_takes (p : Port) : State.reset.takes p := by cases p <;> exact ⟨rfl, rfl⟩

theorem leased_takes (p : Port) : leased.takes p := by cases p <;> exact ⟨rfl, rfl⟩

theorem witness_EmptyQueueTicks : ∃ s : State, s.pending = [] ∧ s.remainingTime .p2 = some 20000 := ⟨parked, by decide +kernel⟩

theorem witness_EmptyQueueTicks_due : ∃ s : State, s.pending = [] ∧ s.dataTimer = some 1 :=
  ⟨working { upload21 with dataTimer := some 1 } .waitData, by decide +kernel⟩

theorem witness_CommandsCompleteAndLeaveTheQueue : ∃ (c : Instr) (s t : State), c ≠ .grantEvent ∧ exec c s = .next t :=
  ⟨.abort .p1, contended, after (.abort .p1) contended, by decide, exec_eq_after (by decide +kernel)⟩

theorem witness_MemoryChangesOnlyAtBlockWrites : ∃ (c : Instr) (s t : State), ¬ storesToMemory c ∧ exec c s = .next t :=
  ⟨.underfillCompletion, voided, after .underfillCompletion voided, fun h => h, exec_eq_after (by decide +kernel)⟩

theorem witness_ConfigurationAndGlobalStateHeld : ∃ (c : Instr) (s t : State), WellFormed c = true ∧ exec c s = .next t ∧
    t.globalState ≠ s.globalState :=
  ⟨.commit .p0 0, State.reset, after (.commit .p0 0) State.reset, by decide +kernel, exec_eq_after (by decide +kernel), by decide +kernel⟩

theorem witness_ConfigurationAndGlobalStateHeld_frame : ∃ (c : Instr) (s t : State), WellFormed c = true ∧ exec c s = .next t ∧
    (∀ p f w, c ≠ .configWrite p f w) ∧ (∀ p w, c ≠ .commit p w) ∧ c ≠ .deviceReset :=
  ⟨.abort .p1, contended, after (.abort .p1) contended, by decide +kernel, exec_eq_after (by decide +kernel), fun _ _ _ h => Instr.noConfusion h,
    fun _ _ h => Instr.noConfusion h, fun h => Instr.noConfusion h⟩

theorem witness_PortsKeepTheirOwn : ∃ (c : Instr) (p q : Port) (s t : State), accessPort c = some p ∧ q ≠ p ∧ exec c s = .next t :=
  ⟨.detach .p1 false, .p1, .p0, busy, after (.detach .p1 false) busy, rfl, by decide, exec_eq_after (by decide +kernel)⟩

theorem witness_DeviceResetAbandonsEverything : ∃ (s : State) (v : Block) (b : BlockName) (q : Requester),
    s.channel = some ⟨.blockWrite v, b, q⟩ :=
  ⟨writing, Vector.replicate 16 0x07E0, ⟨2, 4, 0⟩, .drain, by decide +kernel⟩

theorem witness_DeviceResetEndSamplesStraps : resetting.deviceReset = true := by decide +kernel

theorem witness_RegistersAfterDeviceReset : ∃ (s t u : State) (straps : Straps) (p : Port),
    (s.ports.get p).resetPin = .released ∧ exec .deviceReset s = .next t ∧ exec (.deviceResetEnd straps) t = .next u :=
  ⟨running, after .deviceReset running, _, ⟨.const ⟨true, false⟩, true⟩, .p1, rfl, rfl, rfl⟩

/-- A port with notices, words and an error, within every capacity. -/
theorem witness_StatusRegisters : busy.takes .p1 ∧ Capacities busy :=
  ⟨⟨rfl, rfl⟩,
   { queue := fun p => by cases p <;> decide +kernel
     upload := fun p => by cases p <;> decide +kernel
     readback := fun p => by cases p <;> decide +kernel
     notices := fun p => by cases p <;> decide +kernel
     lossCount := fun p => by cases p <;> decide +kernel
     skips := fun p => by cases p <;> decide +kernel
     occupancy := by decide +kernel
     markers := fun p => by cases p <;> decide +kernel
     spans := fun a h => by
       have h' : (none : Option ActiveCommand) = some a := h
       cases h' }⟩

theorem witness_HeldAccessesIgnored : ∃ (c : Instr) (p : Port) (s : State), accessPort c = some p ∧
    (s.deviceReset = true ∨ (s.ports.get p).resetPin = .asserted) :=
  ⟨.readbackPop .p1, .p1, after (.portReset .p1 .asserted) busy, rfl, .inr (by decide +kernel)⟩

theorem witness_HeldAccessesIgnored_device : ∃ (c : Instr) (p : Port) (s : State), accessPort c = some p ∧ s.deviceReset = true :=
  ⟨.request .p1, .p1, resetting, rfl, by decide +kernel⟩

theorem witness_ConfigWriteStoresOrLocks : (∃ s : State, s.takes .p1 ∧ s.globalState = .setup) ∧
    ∃ s : State, s.takes .p1 ∧ s.globalState ≠ .setup :=
  ⟨⟨State.reset, setup_takes .p1, rfl⟩, ⟨leased, leased_takes .p1, by decide +kernel⟩⟩

/-- Each outcome of a commit: the first and the last check that can fail, and none that fails. -/
theorem witness_CommitOutcome : (∃ s : State, s.takes .p1 ∧ s.globalState ≠ .setup) ∧
    (∃ s : State, s.takes .p1 ∧ s.globalState = .setup ∧ firstFailure (commitChecks s.config s.memorySize.bytes) = none) ∧
    (∃ s : State, s.takes .p1 ∧ s.globalState = .setup ∧ firstFailure (commitChecks s.config s.memorySize.bytes) = some .badWidth) ∧
    ∃ s : State, s.takes .p1 ∧ s.globalState = .setup ∧ firstFailure (commitChecks s.config s.memorySize.bytes) = some .badLimit :=
  ⟨⟨leased, leased_takes .p1, by decide +kernel⟩, ⟨State.reset, setup_takes .p1, by decide +kernel⟩,
    ⟨{ State.reset with config := { ConfigBlock.default with width := 48 } }, setup_takes .p1, by decide +kernel⟩,
    ⟨{ State.reset with config := { ConfigBlock.default with starveLimit := 0 } }, setup_takes .p1, by decide +kernel⟩⟩

/-- A clear write in flight at a block of the 800 × 480 surface. -/
def clearing (b : BlockName) : State :=
  { running with globalState := .clearing, channel := some ⟨.blockWrite zeroBlock, b, .clear⟩, clearPosition := some b }

/-- Each clause at its boundary: the last column but one, the last column, the last row and the last layer. -/
theorem witness_ClearWriteCompletion : (clearing ⟨0, 0, 48⟩).deviceReset = false ∧
    (clearing ⟨0, 0, 48⟩).channel = some ⟨.blockWrite zeroBlock, ⟨0, 0, 48⟩, .clear⟩ ∧ 48 + 1 < running.surfaceWidth / 16 ∧
    running.surfaceWidth / 16 ≤ 49 + 1 ∧ 478 + 1 < running.surfaceHeight ∧ running.surfaceHeight ≤ 479 + 1 ∧
    (after .clearWriteCompletion (clearing ⟨0, 0, 48⟩)).clearPosition = some ⟨0, 0, 49⟩ ∧
    (after .clearWriteCompletion (clearing ⟨0, 478, 49⟩)).clearPosition = some ⟨0, 479, 0⟩ ∧
    (after .clearWriteCompletion (clearing ⟨2, 479, 49⟩)).clearPosition = some ⟨3, 0, 0⟩ ∧
    (after .clearWriteCompletion (clearing ⟨3, 479, 49⟩)).globalState = .run := by decide +kernel

/-- Every refusal of a REQUEST: outside RUN, WAITING, BAD_REGION, NO_QUOTA, NO_SLOT and CONFLICT. -/
theorem witness_RequestRefusals : (∃ s : State, s.takes .p2 ∧ s.globalState ≠ .run) ∧
    (∃ s : State, s.takes .p2 ∧ s.globalState = .run ∧ (s.leaseSlots.get .p2).waiting.isSome = true) ∧
    (∃ (s : State) (r : LeaseRequest), s.takes .p2 ∧ s.globalState = .run ∧ (s.leaseSlots.get .p2).waiting = none ∧
      stagedRequest s.surfaceWidth s.surfaceHeight (s.ports.get .p2).lease = some r ∧ s.quotaOf .p2 ≤ s.windowCount .p2) ∧
    (∃ (s : State) (r : LeaseRequest), s.takes .p2 ∧ s.globalState = .run ∧ (s.leaseSlots.get .p2).waiting = none ∧
      stagedRequest s.surfaceWidth s.surfaceHeight (s.ports.get .p2).lease = some r ∧ s.windowCount .p2 < s.quotaOf .p2 ∧
      r.wait = false ∧ (s.slot 31).state = .free ∧ s.conflictSet .p2 r ≠ [] ∧ r.preempt = false) :=
  ⟨⟨State.reset, setup_takes .p2, by decide +kernel⟩, ⟨parked, ⟨rfl, rfl⟩, by decide +kernel⟩,
    ⟨{ ask leased .p2 0 600 0 200 100 false false 0 with config := { running.config with quota := .const 0 } }, _, ⟨rfl, rfl⟩, rfl, rfl,
      rfl, by decide +kernel⟩,
    ⟨ask leased .p2 0 600 0 200 100 false false 0, _, ⟨rfl, rfl⟩, rfl, rfl, rfl, by decide +kernel⟩⟩

/-- A table without a FREE slot, every window a REVOKED one of P3. -/
def crowded : State := { running with table := Vector.replicate 32 ⟨.revoked (win .p3 1 0 0 16 1) false, 1, 1⟩ }

theorem witness_RequestRefusals_noSlot : ∃ (s : State) (r : LeaseRequest), s.takes .p2 ∧ s.globalState = .run ∧
    (s.leaseSlots.get .p2).waiting = none ∧ stagedRequest s.surfaceWidth s.surfaceHeight (s.ports.get .p2).lease = some r ∧
    s.windowCount .p2 < s.quotaOf .p2 ∧ r.wait = false ∧ ∀ i, (s.slot i).state ≠ .free :=
  ⟨ask crowded .p2 0 600 0 200 100 false false 0, _, ⟨rfl, rfl⟩, rfl, rfl, rfl, by decide +kernel⟩

/-- A region at the edges of the surface passes, and one pixel more in each direction does not (R42). -/
theorem witness_BadRegionExactly :
    (stagedRequest 800 480 ⟨3, true, false, false, 0, 0, 800, 480, 0, false, false, 0, false, false⟩).isSome = true ∧
    stagedRequest 800 480 ⟨3, true, false, false, 1, 0, 800, 480, 0, false, false, 0, false, false⟩ = none ∧
    stagedRequest 800 480 ⟨3, true, false, false, 0, 1, 800, 480, 0, false, false, 0, false, false⟩ = none ∧
    stagedRequest 800 480 ⟨4, true, false, false, 0, 0, 800, 480, 0, false, false, 0, false, false⟩ = none ∧
    stagedRequest 800 480 ⟨3, false, false, false, 0, 0, 800, 480, 0, false, false, 0, false, false⟩ = none ∧
    stagedRequest 800 480 ⟨3, true, false, false, 0, 0, 0, 480, 0, false, false, 0, false, false⟩ = none := by decide +kernel

theorem witness_BadRegionExactly_state : ∃ s : State, s.takes .p2 ∧ s.globalState = .run ∧ (s.leaseSlots.get .p2).waiting = none :=
  ⟨ask leased .p2 3 0 460 800 40 false false 0, ⟨rfl, rfl⟩, rfl, rfl⟩

theorem witness_RequestParks : ∃ (r : LeaseRequest) (s : State), s.takes .p2 ∧ s.globalState = .run ∧
    (s.leaseSlots.get .p2).waiting = none ∧ stagedRequest s.surfaceWidth s.surfaceHeight (s.ports.get .p2).lease = some r ∧
    s.windowCount .p2 < s.quotaOf .p2 ∧ r.wait = true ∧ Blocked s .p2 r :=
  ⟨_, ask leased .p2 0 600 0 200 100 true false 20, ⟨rfl, rfl⟩, rfl, rfl, rfl, by decide +kernel, rfl,
    .inr ⟨by decide +kernel, .inl rfl⟩⟩

/-- Another ground: P2 may preempt, but the conflicting window is P1's, of higher precedence. -/
theorem witness_RequestParks_notClearable : ∃ (r : LeaseRequest) (s : State), s.takes .p2 ∧ s.globalState = .run ∧
    (s.leaseSlots.get .p2).waiting = none ∧ stagedRequest s.surfaceWidth s.surfaceHeight (s.ports.get .p2).lease = some r ∧
    s.windowCount .p2 < s.quotaOf .p2 ∧ r.wait = true ∧ r.preempt = true ∧ Blocked s .p2 r :=
  ⟨_, ask leased .p2 0 600 0 200 100 true true 20, ⟨rfl, rfl⟩, rfl, rfl, rfl, by decide +kernel, rfl, rfl,
    .inr ⟨by decide +kernel, .inr ⟨0, win .p1 0 0 0 800 480, by decide +kernel⟩⟩⟩

/-- The third ground: no slot is FREE. -/
theorem witness_RequestParks_noSlot : ∃ r : LeaseRequest, Blocked (ask crowded .p2 0 600 0 200 100 true true 20) .p2 r ∧
    stagedRequest 800 480 ((ask crowded .p2 0 600 0 200 100 true true 20).ports.get .p2).lease = some r ∧ r.wait = true :=
  ⟨_, .inl (by decide +kernel), rfl, rfl⟩

/-- Both cases of an evaluation: P0's request is blocked while P3 holds the region, and not once the region is free. -/
theorem witness_WaitListEvaluation : ∃ w, (parkedTwice.leaseSlots.get .p0).waiting = some w ∧
    Blocked parkedTwice .p0 w.request ∧ ((put parkedTwice 3 .free 0).leaseSlots.get .p0).waiting = some w ∧
    ¬ Blocked (put parkedTwice 3 .free 0) .p0 w.request :=
  ⟨⟨⟨1, ⟨0, 0, 16, 16⟩, ⟨true, true, true⟩, true, none, true, false, 0⟩, none, 1⟩, by decide +kernel,
    .inr ⟨by decide +kernel, .inl rfl⟩, by decide +kernel, fun h => by
      rcases h with h | ⟨h, -⟩
      · exact h 3 (by decide +kernel)
      · exact h (by decide +kernel)⟩

theorem witness_RequestGranted : ∃ (r : LeaseRequest) (s : State), s.takes .p2 ∧ s.globalState = .run ∧
    (s.leaseSlots.get .p2).waiting = none ∧ stagedRequest s.surfaceWidth s.surfaceHeight (s.ports.get .p2).lease = some r ∧
    s.windowCount .p2 < s.quotaOf .p2 ∧ (s.slot 3).state = .free ∧ (∀ j, j < 3 → (s.slot j).state ≠ .free) ∧
    s.conflictSet .p2 r = [] :=
  ⟨_, ask leased .p2 1 600 0 200 100 false false 0, ⟨rfl, rfl⟩, rfl, rfl, rfl, by decide +kernel⟩

theorem witness_RequestPreempts : ∃ r : LeaseRequest, filling.takes .p0 ∧ filling.globalState = .run ∧
    (filling.leaseSlots.get .p0).waiting = none ∧
    stagedRequest filling.surfaceWidth filling.surfaceHeight (filling.ports.get .p0).lease = some r ∧
    filling.windowCount .p0 < filling.quotaOf .p0 ∧ (filling.slot 3).state = .free ∧ filling.conflictSet .p0 r = [2] ∧
    r.preempt = true ∧ (filling.slot 2).live = some (win .p1 2 0 0 320 240) ∧
    filling.precedence.get .p0 < filling.precedence.get .p1 :=
  ⟨_, ⟨rfl, rfl⟩, rfl, rfl, rfl, by decide +kernel⟩

theorem witness_RevocationVoids : (filling.slot 2).state = .held (win .p1 2 0 0 320 240) ∧
    ((put filling 2 (.draining (win .p1 2 0 0 320 240) true) 3).slot 2).state = .draining (win .p1 2 0 0 320 240) true := by
  decide +kernel

/-- Each check of RELEASE and SET_VISIBLE that can stop them, and an operation that passes. -/
theorem witness_ReleaseAndSetVisible : (∀ p, leased.takes p) ∧ leased.globalState = .run ∧
    (leased.slot 2).generation ≠ 2 ∧ (leased.slot 1).window.map Window.owner ≠ some .p1 ∧
    (leased.slot 2).state = .held (win .p1 2 0 0 320 240) ∧ (leased.slot 2).generation = 1 :=
  ⟨leased_takes, by decide +kernel⟩

theorem witness_CancelOutcome : (∃ s : State, s.takes .p2 ∧ s.globalState = .run ∧ (s.leaseSlots.get .p2).waiting.isSome = true) ∧
    (∃ s : State, s.takes .p2 ∧ s.globalState = .run ∧ (s.leaseSlots.get .p2).waiting = none) ∧
    ∃ s : State, s.takes .p2 ∧ s.globalState ≠ .run :=
  ⟨⟨parked, ⟨rfl, rfl⟩, by decide +kernel⟩, ⟨leased, leased_takes .p2, by decide +kernel⟩, ⟨State.reset, setup_takes .p2, by decide +kernel⟩⟩

theorem witness_LeaseTimeoutOutcome : (parkedFor 0).deviceReset = false ∧ (parkedFor 0).remainingTime .p2 = some 0 ∧
    (parkedFor 1).deviceReset = false ∧ (parkedFor 1).remainingTime .p2 = some 1 ∧
    leased.deviceReset = false ∧ leased.remainingTime .p2 = none := by decide +kernel

/-- A state for each outcome of a submission. -/
theorem witness_SubmissionOutcome : State.reset.takes .p1 ∧ State.reset.globalState ≠ .run ∧ leased.takes .p1 ∧
    leased.globalState = .run ∧ (leased.ports.get .p1).queue.length < 8 ∧
    stagedCommand .readback 0 false (leased.ports.get .p1).command = none ∧
    (stagedCommand .fill 7 true { CommandStaging.reset with width := 2048, height := 1 }).isSome = true ∧
    ∃ s : State, s.takes .p1 ∧ s.globalState = .run ∧ (s.ports.get .p1).queue.length = 8 :=
  ⟨setup_takes .p1, by decide +kernel, leased_takes .p1, by decide +kernel, by decide +kernel, by decide +kernel, by decide +kernel,
    ⟨leased.onPort .p1 fun hp => { hp with queue := List.replicate 8 (.fence 1) }, ⟨rfl, rfl⟩, by decide +kernel⟩⟩

/-- The ranges of R68 at their ends: 2047 and 2048 for a coordinate, 2048 and 2049 for a length, 31 and 32 for a slot. -/
theorem witness_BadFieldExactly :
    (stagedCommand .fill 0 false { CommandStaging.reset with slot := 31, x := 2047, width := 2048, height := 1 }).isSome = true ∧
    stagedCommand .fill 0 false { CommandStaging.reset with slot := 32, x := 2047, width := 2048, height := 1 } = none ∧
    stagedCommand .fill 0 false { CommandStaging.reset with slot := 31, x := 2048, width := 2048, height := 1 } = none ∧
    stagedCommand .fill 0 false { CommandStaging.reset with slot := 31, x := 2047, width := 2049, height := 1 } = none ∧
    stagedCommand .pattern 0 false { CommandStaging.reset with originX := 8, width := 1, height := 1 } = none ∧
    stagedCommand .copy 0 false { CommandStaging.reset with sourceSlot := 32, width := 1, height := 1 } = none := by decide +kernel

theorem witness_AbortOutcome : (working upload21 .run).takes .p1 ∧ (working upload21 .run).engine.current = some upload21 ∧
    upload21.port = .p1 ∧ upload21.endMark = false ∧ (working upload21 .run).takes .p0 ∧ upload21.port ≠ .p0 ∧
    (working upload21.mark .run).takes .p1 ∧ upload21.mark.endMark = true :=
  ⟨⟨rfl, rfl⟩, rfl, rfl, rfl, ⟨rfl, rfl⟩, by decide, ⟨rfl, rfl⟩, by decide +kernel⟩

theorem witness_ChoicePicks : contended.deviceReset = false ∧ contended.engine.state = .idle ∧
    (contended.ports.get .p1).queue = .draw fill7 :: [] ∧ contended.config.starveLimit.toNat ≤ contended.skips.get .p1 := by
  decide +kernel

/-- With no candidate starving, the smallest precedence number is picked. -/
theorem witness_ChoicePicks_precedence : ({ contended with skips := .const 1 } : State).pick = some .p0 ∧
    ∀ q, ¬ (contended.config.starveLimit.toNat ≤ (PerPort.const 1).get q) :=
  ⟨by decide +kernel, fun q => by cases q <;> decide⟩

theorem witness_SkipCountsMoveOnlyAsStated : (contended.pick = some .p1 ∧ (contended.ports.get .p1).queue = .draw fill7 :: [] ∧
    contended.deviceReset = false ∧ contended.engine.state = .idle) ∧
    (WellFormed (.abort .p1) = true ∧ exec (.abort .p1) contended = .next (after (.abort .p1) contended)) ∧
    contended.pending = [] :=
  ⟨by decide +kernel, ⟨by decide +kernel, exec_eq_after (by decide +kernel)⟩, rfl⟩

/-- The command of each start check that can fail, and of one that passes. -/
theorem witness_StartOutcome : firstFailure (startList leased .p1 fill7) = none ∧
    firstFailure (startList leased .p1 { fill7 with handle := ⟨2, 9⟩ }) = some .staleHandle ∧
    firstFailure (startList leased .p0 fill7) = some .notOwner ∧
    firstFailure (startList (put leased 2 (.revoked (win .p1 2 0 0 320 240) false) 0) .p1 fill7) = some .windowLost ∧
    firstFailure (startList (put leased 2 (.held { win .p1 2 0 0 320 240 with rights := ⟨false, true, true⟩ }) 0) .p1 fill7) =
      some .noRight ∧
    firstFailure (startList leased .p1 { fill7 with region := ⟨8, 0, 313, 240⟩, kind := .readback }) = some .outOfWindow := by
  decide +kernel

theorem witness_StartOutcome_reaches : Reaches leased fill7 0 0 ∧ ∀ i j, ¬ Reaches leased { fill7 with region := ⟨320, 0, 1, 1⟩ } i j :=
  ⟨⟨by decide, by decide, ⟨win .p1 2 0 0 320 240, by decide +kernel⟩, fun _ _ _ _ _ _ h => DrawKind.noConfusion h⟩,
    fun i j h => by
      obtain ⟨w, hw, hc⟩ := h.2.2.1
      have hw' : some (win .p1 2 0 0 320 240) = some w := hw
      cases hw'
      simp [regionCovers, win] at hc⟩

theorem witness_SpansCoverTheRectangle : 1 ≤ fill6.clip.width ∧ 1 ≤ fill6.clip.height := by decide

/-- The COPY of section 5.11, its first and second spans. -/
def copying : ActiveCommand := { active copy5 none with layer := 1, sourceLayer := 1, blocks := .leftward }

theorem witness_CopyReadsBeforeItWrites : copying.command.kind = .copy 12 0xFFFF ⟨2, 5⟩ 10 0 none ∧ 1 ≤ copying.clip.width ∧
    1 ≤ copying.clip.height ∧ copying.layer = copying.sourceLayer ∧
    (copying.rows, copying.blocks) = copyOrder copying.layer copying.sourceLayer copying.command.region 10 0 copying.clip ∧
    nthSpan copying 0 = some ⟨0, 3⟩ ∧ nthSpan copying 1 = some ⟨0, 2⟩ ∧ 32 ∈ copying.spanXs ⟨0, 2⟩ := by decide +kernel

theorem witness_SourceValueOfEachPixel : 32 ∈ copying.spanXs ⟨0, 2⟩ ∧ copying.left / 16 ≤ 2 ∧ 2 ≤ copying.right / 16 := by
  decide +kernel

/-- A state for each outcome of a span post: lost, allocated, merged, and refused with FULL. -/
def posting : State := working (active fill7 (some ⟨4, 0⟩)) .run

theorem witness_SpanPostOutcome : posting.deviceReset = false ∧ posting.engine.current = some (active fill7 (some ⟨4, 0⟩)) ∧
    posting.engine.mayPost = true ∧ (active fill7 (some ⟨4, 0⟩)).postReady ⟨4, 0⟩ = true ∧
    (posting.slot 2).generation = 1 ∧ (posting.slot 2).state = .held (win .p1 2 0 0 320 240) ∧ posting.buffer.occupancy < 64 ∧
    (holding posting (List.replicate 64 (.entry (pix 1 (maskFrom 0) .opened)))).buffer.occupancy = 64 := by decide +kernel

theorem witness_SpanPostOutcome_joins : Joins (holding posting [.entry (pix 0 (maskFrom 8) .opened)]) ⟨2, 1⟩ ⟨2, 4, 0⟩ :=
  ⟨pix 0 (maskFrom 8) .opened, by decide +kernel⟩

theorem witness_SpanPostOutcome_lost : ¬ Holds (put posting 2 (.revoked (win .p1 2 0 0 320 240) false) 0) ⟨2, 1⟩ :=
  fun ⟨_, w, h⟩ => by
    have h' : SlotState.revoked (win .p1 2 0 0 320 240) false = .held w := h
    cases h'

theorem witness_MergeAndAllocation : filling.buffer.items = [.entry (pix 0 (maskFrom 8) .filling)] ++
    .entry (pix 1 (maskFrom 0) .opened) :: [.entry (pix 2 (maskFrom 0) .opened)] ∧
    ∀ y ∈ [pix 2 (maskFrom 0) .opened], y.block ≠ (pix 1 (maskFrom 0) .opened).block := by decide +kernel

theorem witness_FirstAllocation : posting.buffer.entries = [] ∧ ∀ e ∈ filling.buffer.entries, e.block ≠ ⟨2, 4, 9⟩ := by
  decide +kernel

/-- P1's READBACK at its first span, before the read. -/
def reading : State := working { readback3 with position := some ⟨0, 0⟩, work := .empty, readbackCarry := none } .run

theorem witness_ForwardedReads : reading.deviceReset = false ∧ reading.engine.state = .run ∧
    (reading.engine.current.bind fun a => a.nextRead ⟨0, 0⟩) = some ⟨some ⟨2, 1⟩, ⟨2, 0, 0⟩⟩ ∧
    (reading.slot 2).state = .held (win .p1 2 0 0 320 240) ∧ (reading.slot 2).generation = 1 ∧
    (holding reading [.entry { pix 0 (maskFrom 0) .opened with block := ⟨2, 0, 0⟩ }]).buffer.covers ⟨2, 0, 0⟩ = true ∧
    reading.buffer.covers ⟨2, 0, 0⟩ = false := by decide +kernel

/-- A READBACK span of two pixels, and one of a single pixel. -/
theorem witness_DeliveredBlock : readback3.spanXs ⟨0, 0⟩ = [14, 15] ∧ readback3.spanXs ⟨0, 1⟩ = [16] ∧
    readback3.command.kind = .readback := by decide +kernel

theorem witness_UploadPopOutcome : uploading.deviceReset = false ∧ uploading.engine.current = some upload21 ∧
    upload21.position = some ⟨10, 0⟩ ∧ upload21.command.kind.isUpload = true ∧
    upload21.work.gathered.length < upload21.spanLength ⟨10, 0⟩ ∧ uploading.engine.state = .run ∧
    ((working upload21 .waitData).ports.get .p1).upload = [] := by decide +kernel

theorem witness_ReadbackPushes : (working readback3 .run).engine.current = some readback3 ∧ readback3.command.kind = .readback ∧
    readback3.position = some ⟨1, 0⟩ ∧ readback3.readbackCarry.toList ++ readback3.work.stream = [2, 3, 4] ∧
    readback3.nextWord.isSome = true ∧ ((working readback3 .run).ports.get .p1).readback.length < 32 ∧
    (((working readback3 .waitRoom).onPort .p1 fun hp => { hp with readback := List.replicate 32 0 }).ports.get .p1).readback.length = 32 ∧
    ({ readback3 with position := none, readbackCarry := some 8, work := .empty } : ActiveCommand).nextWord.isSome = true := by
  decide +kernel

/-- An UPLOAD span of pixels that all equal the source key. -/
def keyed : ActiveCommand :=
  { active ⟨0, false, ⟨2, 1⟩, ⟨5, 10, 21, 2⟩, .upload 12 0xFFFF (some 0)⟩ (some ⟨10, 0⟩) with
    work := { SpanWork.empty with gathered := List.replicate 11 0 } }

theorem witness_EndsOfACommand : (working keyed .run).deviceReset = false ∧ (working keyed .run).engine.current = some keyed ∧
    keyed.sourceReady ⟨10, 0⟩ = true ∧ (∀ x ∈ keyed.spanXs ⟨10, 0⟩, keyed.skipped ⟨10, 0⟩ x = true) ∧
    (active fill7 none).position = none ∧ (active fill7 none).readbackCarry = none ∧ (active fill7 none).endMark = false ∧
    ({ active fill7 none with endMark := true } : ActiveCommand).endDue = false ∧
    (active fill7 none).mark.endDue = true := by decide +kernel

theorem witness_EndsOfACommand_timer :
    let a := { keyed with dataTimer := some 0, endMark := true }
    (working a .waitData).deviceReset = false ∧ (working a .waitData).engine.current = some a ∧
      (working a .waitData).engine.state = .waitData := by decide +kernel

/-- A FENCE at the head with an entry of its port older than it. -/
def fencing : State := (holding leased [.entry (pix 0 (maskFrom 8) .opened)]).onPort .p1 fun hp => { hp with queue := [.fence 21] }

theorem witness_FenceTakeOutcome : fencing.deviceReset = false ∧ MarkerLaw fencing ∧ (fencing.ports.get .p1).queue = .fence 21 :: [] ∧
    fencing.engine.current = none ∧ fencing.buffer.markers = [] ∧ ∃ e ∈ fencing.buffer.entries, e.port = .p1 :=
  ⟨rfl, fun p => by cases p <;> decide +kernel, rfl, rfl, by decide +kernel, pix 0 (maskFrom 8) .opened, by decide +kernel⟩

/-- The engine read's and the drain's clauses of the grant. -/
theorem witness_GrantOutcome : contending.deviceReset = false ∧ contending.channel = none ∧ contending.composer.fetchList = [] ∧
    contending.buffer.engineRead = some ⟨⟨2, 4, 0⟩, false⟩ ∧ contending.alternation = .drain ∧ contending.drainStands = true ∧
    contending.inSurface ⟨2, 4, 0⟩ = true ∧ (pix 0 (maskFrom 8) .closed).mask[0] = false ∧
    (∀ i : Fin 16, (pix 0 (maskFrom 0) .closed).mask[i] = true) := by decide +kernel

/-- The Composer's and the clear pass's clauses of the grant, and the idle one. -/
theorem witness_GrantOutcome_others : late.channel = none ∧ late.composer.fetchLine = some 0 ∧ late.composer.fetchList = ⟨0, 1⟩ :: [] ∧
    late.inSurface ⟨0, 0, 1⟩ = true ∧ ({ clearing ⟨0, 0, 48⟩ with channel := none } : State).arbitrate = some .clear ∧
    running.arbitrate = none ∧ (clearing ⟨0, 0, 48⟩).channel ≠ none := by decide +kernel

theorem witness_ReadCompletions : (∃ s : State, s.deviceReset = false ∧ s.channel = some ⟨.blockRead, ⟨2, 4, 0⟩, .engineRead⟩) ∧
    ∃ (s : State) (f : FetchInFlight), s.deviceReset = false ∧ s.channel = some ⟨.blockRead, ⟨0, 0, 1⟩, .composer⟩ ∧
      s.composer.inFlight = some f :=
  ⟨⟨after .grantEvent contending, by decide +kernel⟩, ⟨after .grantEvent late, ⟨⟨0, 1⟩, 0, false⟩, by decide +kernel⟩⟩

theorem witness_DrainCompletions : voided.deviceReset = false ∧ voided.channel = some ⟨.blockRead, ⟨2, 4, 0⟩, .drain⟩ ∧
    voided.buffer.items = [] ++ .entry (pix 0 (maskFrom 8) .voided) :: [.marker ⟨.p1, 21⟩] ∧
    writing.channel = some ⟨.blockWrite (Vector.replicate 16 0x07E0), ⟨2, 4, 0⟩, .drain⟩ ∧
    writing.buffer.items = [] ++ .entry (pix 0 (maskFrom 0) .writing) :: [] := by decide +kernel

/-- A FILLING entry whose underfill read completes. -/
theorem witness_DrainCompletions_filling : ∃ s : State, s.deviceReset = false ∧ s.channel = some ⟨.blockRead, ⟨2, 4, 0⟩, .drain⟩ ∧
    s.buffer.items = [] ++ .entry (pix 0 (maskFrom 8) .filling) :: [.entry (pix 1 (maskFrom 0) .opened), .entry (pix 2 (maskFrom 0) .opened)] :=
  ⟨{ filling with channel := some ⟨.blockRead, ⟨2, 4, 0⟩, .drain⟩ }, by decide +kernel⟩

theorem witness_FrameStartOutcome : shown.deviceReset = false ∧ FrameDue shown ∧ ¬ FrameDue late :=
  ⟨rfl, ⟨rfl, .inl rfl⟩, fun ⟨_, h⟩ => by
    have hp : late.composer.position = .lead := rfl
    rw [hp] at h
    simp at h⟩

/-- The other ways to a frame start: from the last trailing blank line, and from the last line with VBLANK = 1. -/
theorem witness_FrameStartOutcome_others :
    FrameDue (late.onComposer fun c => { c with position := .trailing 44 }) ∧
    FrameDue { late with config := { late.config with vblank := 1 }, composer := { late.composer with position := .visible 479 } } :=
  ⟨⟨rfl, .inr (.inl (by decide +kernel))⟩, ⟨rfl, .inr (.inr (by decide +kernel))⟩⟩

theorem witness_ComposedPixel : layerValue shown.buildDisplayList (lineOf 0x07E0 0x5555) 1 100 200 = some 0x07E0 ∧
    (∀ above, (1 : Layer) < above → layerValue shown.buildDisplayList (lineOf 0x07E0 0x5555) above 100 200 = none) ∧
    ∀ layer, layerValue [] (lineOf 0x07E0 0x5555) layer 100 200 = none := by decide +kernel

/-- LINE_DUE of line 0 from LEAD and of the last line, and both ways into a trailing blank line. -/
theorem witness_LinesOfAFrame : late.deviceReset = false ∧ late.composer.running = true ∧ 0 < late.surfaceHeight ∧
    late.composer.position = .lead ∧
    ({ late with composer := { late.composer with position := .visible 478 } } : State).nextLine = some 479 ∧
    479 < late.surfaceHeight ∧
    ({ late with composer := { late.composer with position := .visible 479 } } : State).nextTrailing = some 1 ∧
    ({ late with composer := { late.composer with position := .trailing 43 } } : State).nextTrailing = some 44 ∧
    44 < late.config.vblank.toNat := by decide +kernel

/-- A visible line with its first pixel, the last visible period, and the first and last periods of line sync. -/
theorem witness_PanelOutputs :
    let s : State := { late with composer := { late.composer with position := .visible 0, sentLine := List.replicate 800 7 } }
    s.panelPixel 0 = 7 ∧ s.panelPixel 799 = 7 ∧ s.panelPixel 800 = 0 ∧ s.lineSync 799 = false ∧ s.lineSync 800 = true ∧
      s.lineSync 959 = true ∧ s.lineSync 960 = false ∧ s.frameSync = false ∧ late.frameSync = true := by decide +kernel

/-- Levels 31 and 32 of the upload FIFO, and a readback FIFO with words and without. -/
theorem witness_PixelFifoAccesses : busy.takes .p1 ∧ (busy.ports.get .p1).readback = 5 :: [6] ∧ (busy.ports.get .p0).readback = [] ∧
    (∃ s : State, s.takes .p1 ∧ (s.ports.get .p1).upload.length = 31) ∧ ∃ s : State, s.takes .p1 ∧ (s.ports.get .p1).upload.length = 32 :=
  ⟨⟨rfl, rfl⟩, rfl, rfl, ⟨leased.onPort .p1 fun hp => { hp with upload := List.replicate 31 0 }, ⟨rfl, rfl⟩, by decide +kernel⟩,
    ⟨leased.onPort .p1 fun hp => { hp with upload := List.replicate 32 0 }, ⟨rfl, rfl⟩, by decide +kernel⟩⟩

theorem witness_LossCountRule : busy.takes .p1 ∧ (busy.ports.get .p1).lossCount ≤ 255 ∧ (busy.ports.get .p1).resetPin = .released ∧
    exec .deviceReset busy = .next (after .deviceReset busy) ∧
    exec (.detach .p1 true) busy = .next (after (.detach .p1 true) busy) :=
  ⟨⟨rfl, rfl⟩, by decide +kernel, rfl, exec_eq_after (by decide +kernel),
    exec_eq_after (by decide +kernel)⟩

theorem witness_ActingReads : busy.takes .p1 ∧ (busy.ports.get .p1).notices = .fenceDone 21 :: [.leaseTimedOut] ∧ busy.takes .p0 ∧
    (busy.ports.get .p0).notices = [] := ⟨⟨rfl, rfl⟩, rfl, ⟨rfl, rfl⟩, rfl⟩

theorem witness_EnablesAndInterruptLine : busy.takes .p1 := ⟨rfl, rfl⟩

theorem witness_RegisterWritesAndBadOffsets : busy.takes .p1 ∧ WellFormed (.registerWrite .p1 0x48 7) = true ∧
    stagingMask 0x48 = some 0x0003FFFF ∧ WellFormed (.registerWrite .p1 0x34 7) = true ∧ stagingMask 0x34 = none ∧
    WellFormed (.badOffset .p1 (.unmappedRead 0xB0)) = true ∧ WellFormed (.badOffset .p1 (.narrowWrite 0x30)) = true :=
  ⟨⟨rfl, rfl⟩, by decide +kernel⟩

/-- A detach of a port with entries to void under a HELD window, and of one that owns no window and is evaluated for nothing. -/
theorem witness_DetachBeforeEvaluation : Detaches (.detach .p1 true) .p1 filling ∧ filling.windowCount .p1 = 2 ∧
    (filling.slot 2).state = .held (win .p1 2 0 0 320 240) ∧
    (filling.buffer.entries.map Entry.state = [.filling, .opened, .opened]) ∧
    Detaches (.portReset .p3 .asserted) .p3 filling ∧ filling.windowCount .p3 = 0 :=
  ⟨.inl ⟨⟨rfl, rfl⟩, true, rfl⟩, by decide +kernel, by decide +kernel, by decide +kernel, .inr ⟨rfl, rfl, rfl⟩, by decide +kernel⟩

theorem witness_DetachOutcome : busy.takes .p1 ∧ busy.deviceReset = false ∧ (busy.ports.get .p1).resetPin = .released ∧
    (working upload21 .run).takes .p1 ∧ (working upload21 .run).engine.current = some upload21 ∧ upload21.port = .p1 ∧
    resetting.deviceReset = true := ⟨⟨rfl, rfl⟩, rfl, rfl, ⟨rfl, rfl⟩, rfl, rfl, by decide +kernel⟩

/-! ### States that meet every law, with a step -/

/-- The first leases with a block write of the drain in flight for an entry of 2/1, P2's request parked, and the write's
completion next in the queue. -/
def settled : State :=
  { parked with
    table := writing.table, buffer := writing.buffer, channel := writing.channel, pending := [.blockWriteCompletion] }

/-- The state after the step of `settled`. -/
theorem settled_steps : step settled = .next (after .blockWriteCompletion { settled with pending := [] }) :=
  exec_eq_after (c := .blockWriteCompletion) (s := { settled with pending := [] }) (by decide +kernel)

theorem witness_CapacitiesKept : Capacities settled ∧ RecordLaws settled ∧ ∃ t, step settled = .next t :=
  ⟨{ queue := fun p => by cases p <;> decide +kernel
     upload := fun p => by cases p <;> decide +kernel
     readback := fun p => by cases p <;> decide +kernel
     notices := fun p => by cases p <;> decide +kernel
     lossCount := fun p => by cases p <;> decide +kernel
     skips := fun p => by cases p <;> decide +kernel
     occupancy := by decide +kernel
     markers := fun p => by cases p <;> decide +kernel
     spans := fun a h => by
       have h' : (none : Option ActiveCommand) = some a := h
       cases h' },
    ⟨rfl, rfl⟩, _, settled_steps⟩

theorem witness_PendingWriteBufferLaw : settled.buffer.entries.length ≤ 64 ∧ OpenLaw settled ∧ ∃ t, step settled = .next t :=
  ⟨by decide +kernel, List.pairwise_singleton _ _, _, settled_steps⟩

theorem settled_entries : settled.buffer.entries = [pix 0 (maskFrom 0) .writing] := by decide +kernel

theorem witness_BufferLawsKept : BufferLaws settled ∧ ∃ t, step settled = .next t :=
  ⟨{ outstanding := ⟨by decide +kernel, by decide +kernel, by decide +kernel⟩
     entries := fun e he => by
       rw [settled_entries, List.mem_singleton] at he
       subst he
       exact ⟨⟨win .p1 2 0 0 320 240, by decide +kernel⟩, fun h => by rcases h with h | h | h <;> cases h⟩
     markers := fun p => by cases p <;> decide +kernel }, _, settled_steps⟩

theorem settled_windows : ∀ i : SlotNo, ((settled.slot i).live.all fun w =>
    (i, w) ∈ [(0, win .p1 0 0 0 800 480), (1, win .p0 3 0 440 800 40), (2, win .p1 2 0 0 320 240)]) = true ∧
    (settled.slot i).window = (settled.slot i).live := by decide +kernel

theorem settled_live {i : SlotNo} {w : Window} (h : (settled.slot i).live = some w) :
    w = win .p1 0 0 0 800 480 ∨ w = win .p0 3 0 440 800 40 ∨ w = win .p1 2 0 0 320 240 := by
  have := (settled_windows i).1
  rw [h] at this
  simp only [Option.all_some, decide_eq_true_eq, List.mem_cons, Prod.mk.injEq, List.not_mem_nil, or_false] at this
  tauto

theorem settled_waitList : settled.waitList = [.p2] := by decide +kernel

theorem settled_waits {p : Port} {w : WaitingRequest} (h : (settled.leaseSlots.get p).waiting = some w) :
    w.request.region = ⟨600, 0, 200, 100⟩ ∧ w.parkTime < settled.parkings := by
  cases p
  case p2 =>
    have h' : settled.leaseSlots.p2.waiting = some w := h
    have : (settled.leaseSlots.p2.waiting.all fun w =>
        w.request.region = ⟨600, 0, 200, 100⟩ ∧ w.parkTime < settled.parkings) = true := by decide +kernel
    rw [h'] at this
    simpa using this
  all_goals
    have h' : (none : Option WaitingRequest) = some w := h
    cases h'

theorem witness_LeaseLawsKept : LeaseLaws settled ∧ ∃ t, step settled = .next t :=
  ⟨{ quota := ⟨fun p => by cases p <;> decide +kernel, fun p => by cases p <;> decide +kernel⟩
     overlap := fun i j w v hi hj ho hl => by
       rcases settled_live hi with rfl | rfl | rfl <;> rcases settled_live hj with rfl | rfl | rfl <;>
         first | exact absurd rfl ho | cases hl
     wait := ⟨fun p => by cases p <;> decide +kernel, by decide +kernel, settled_waitList ▸ List.pairwise_singleton _ _,
       fun p w h => (settled_waits h).2⟩
     setup := ⟨fun h => Bool.noConfusion (show false = true from h), fun h => GlobalState.noConfusion (show GlobalState.run = .setup from h),
       fun h => GlobalState.noConfusion (show GlobalState.run = .setup from h)⟩ }, _, settled_steps⟩

theorem witness_NoStepFaults : SurfaceLaws settled where
  reset h := by cases (h : false = true)
  setup h := by cases (h : GlobalState.run = .setup)
  geometry _ := by decide +kernel
  windows i w h := by
    rw [(settled_windows i).2] at h
    rcases settled_live h with rfl | rfl | rfl <;> exact ⟨by decide +kernel, by decide +kernel⟩
  waiting p w h := by
    unfold State.covers
    rw [(settled_waits h).1]
    exact ⟨by decide +kernel, by decide +kernel⟩
  entries e he := by
    rw [settled_entries, List.mem_singleton] at he
    subst he
    exact ⟨by decide +kernel, by decide +kernel⟩
  engineRead r h := by cases (h : (none : Option EngineRead) = some r)
  channel a h := by
    cases (h : some (⟨.blockWrite (Vector.replicate 16 0x07E0), ⟨2, 4, 0⟩, .drain⟩ : Access) = some a)
    exact ⟨by decide +kernel, by decide +kernel⟩
  fetchLine y h := by cases (h : (none : Option Nat) = some y)
  fetchList b h := by cases (h : b ∈ ([] : List LineBlock))
  clear b h := by cases (h : (none : Option BlockName) = some b)
  command a h := by cases (h : (none : Option ActiveCommand) = some a)

/-- The last clear write of a pass, in a state that meets SurfaceLaws, and the change to RUN at its completion. -/
theorem witness_GlobalStateTransitions_clear : SurfaceLaws (clearing ⟨3, 479, 49⟩) ∧
    exec .clearWriteCompletion (clearing ⟨3, 479, 49⟩) = .next (after .clearWriteCompletion (clearing ⟨3, 479, 49⟩)) ∧
    (after .clearWriteCompletion (clearing ⟨3, 479, 49⟩)).globalState ≠ (clearing ⟨3, 479, 49⟩).globalState :=
  ⟨{ reset := fun h => by cases (h : false = true)
     setup := fun h => by cases (h : GlobalState.clearing = .setup)
     geometry := fun _ => by decide +kernel
     windows := fun i w h => by
       have free : ∀ i : SlotNo, ((clearing ⟨3, 479, 49⟩).slot i).window = none := by decide +kernel
       rw [free i] at h
       cases h
     waiting := fun p w h => by cases p <;> cases (h : (none : Option WaitingRequest) = some w)
     entries := fun e h => by cases (h : e ∈ ([] : List Entry))
     engineRead := fun r h => by cases (h : (none : Option EngineRead) = some r)
     channel := fun a h => by
       cases (h : some (⟨.blockWrite zeroBlock, ⟨3, 479, 49⟩, .clear⟩ : Access) = some a)
       exact ⟨by decide +kernel, by decide +kernel⟩
     fetchLine := fun y h => by cases (h : (none : Option Nat) = some y)
     fetchList := fun b h => by cases (h : b ∈ ([] : List LineBlock))
     clear := fun b h => by
       cases (h : some (⟨3, 479, 49⟩ : BlockName) = some b)
       exact ⟨by decide +kernel, by decide +kernel⟩
     command := fun a h => by cases (h : (none : Option ActiveCommand) = some a) },
   exec_eq_after (by decide +kernel), by decide +kernel⟩

/-- An item that covers pixels, as the fetch list's third clause asks. -/
theorem witness_DisplayAndFetchLists : ∀ d ∈ shown.buildDisplayList, 1 ≤ d.region.width := by decide +kernel

end Sys2Proof.Tests
end

section
/-! SUPPORT. The ways a command is taken, for any property of the state that it leads to, and the configuration logic that
every event but the reset, configuration, commit and clear events leaves as it is. -/

namespace Sys2Proof.Machine

set_option Elab.async false

/-! ### A property across the ways a command is taken -/

/-- A property that holds where an access is ignored, and after its event where it is taken, holds after the access. -/
theorem writeAccess_of {P : State → Prop} {s : State} {p : Port} {f : State → State} (h : P s)
    (hf : s.ignoresAccess p = false → P (f s)) : P (writeAccess s p f) := by
  rcases writeAccess_cases s p f with e | ⟨taken, e⟩
  · rw [e]; exact h
  · rw [e]; exact hf taken

/-- The same for an acting read and a property that no returned word changes. -/
theorem readAccess_of {P : State → Prop} {s : State} {p : Port} {w : Word} {f : State → State} (h : P s)
    (hf : s.ignoresAccess p = false → P (f s))
    (word : ∀ (t : State) (v : Word), P t → P (t.onPort p fun hp => { hp with readData := v })) :
    P (readAccess s p w f) := by
  rcases readAccess_cases s p w f with e | ⟨taken, e⟩
  · rw [e]; exact word _ _ h
  · rw [e]; exact word _ _ (hf taken)

/-- The same for an event of the part's own. -/
theorem ownEvent_of {P : State → Prop} {s : State} {f : State → State} (h : P s)
    (hf : s.deviceReset = false → P (f s)) : P (ownEvent s f) := by
  rcases ownEvent_cases s f with ⟨-, e⟩ | ⟨running, e⟩
  · rw [e]; exact h
  · rw [e]; exact hf running

theorem ignoresAccess_of_takes {s : State} {p : Port} (h : s.takes p) : s.ignoresAccess p = false := by
  obtain ⟨device, pin⟩ := h
  simp [State.ignoresAccess, device, pin]

theorem ignoresAccess_of_held {s : State} {p : Port}
    (h : s.deviceReset = true ∨ (s.ports.get p).resetPin = .asserted) : s.ignoresAccess p = true := by
  rcases h with h | h <;> simp [State.ignoresAccess, h]

theorem deviceReset_of_taken {s : State} {p : Port} (h : s.ignoresAccess p = false) : s.deviceReset = false := by
  unfold State.ignoresAccess at h
  exact (Bool.or_eq_false_iff.mp h).1

theorem writeAccess_of_takes {s : State} {p : Port} (h : s.takes p) (f : State → State) : writeAccess s p f = f s := by
  simp [writeAccess, ignoresAccess_of_takes h]

theorem ownEvent_of_running {s : State} (h : s.deviceReset = false) (f : State → State) : ownEvent s f = f s := by
  simp [ownEvent, h]

/-! ### Postings to every port -/

theorem State.postAll_get (s : State) (n : Notice) (p : Port) : (s.postAll n).ports.get p = (s.ports.get p).offer n := by
  cases p <;> rfl

/-! ### What the configuration logic keeps -/

/-- `t` agrees with `s` on the configuration logic and the sampled straps. -/
structure LogicFrame (s t : State) : Prop where
  deviceReset : t.deviceReset = s.deviceReset
  globalState : t.globalState = s.globalState
  config : t.config = s.config
  commitResult : t.commitResult = s.commitResult
  memorySize : t.memorySize = s.memorySize
  precedence : t.precedence = s.precedence

/-- `t` agrees with `s` on surface memory too. -/
structure UnwrittenFrame (s t : State) : Prop extends LogicFrame s t where
  memory : t.memory = s.memory

theorem LogicFrame.refl (s : State) : LogicFrame s s := by constructor <;> rfl

theorem UnwrittenFrame.refl (s : State) : UnwrittenFrame s s := ⟨.refl s, rfl⟩

theorem LogicFrame.trans {s t u : State} (a : LogicFrame s t) (b : LogicFrame t u) : LogicFrame s u where
  deviceReset := b.deviceReset.trans a.deviceReset
  globalState := b.globalState.trans a.globalState
  config := b.config.trans a.config
  commitResult := b.commitResult.trans a.commitResult
  memorySize := b.memorySize.trans a.memorySize
  precedence := b.precedence.trans a.precedence

theorem UnwrittenFrame.trans {s t u : State} (a : UnwrittenFrame s t) (b : UnwrittenFrame t u) : UnwrittenFrame s u :=
  ⟨a.toLogicFrame.trans b.toLogicFrame, b.memory.trans a.memory⟩

/-- An event that keeps the configuration logic, the channel, the Composer and surface memory. -/
theorem EventFrame.unwritten {s t : State} (h : EventFrame s t) : UnwrittenFrame s t where
  deviceReset := h.deviceReset
  globalState := h.globalState
  config := h.config
  commitResult := h.commitResult
  memorySize := h.memorySize
  precedence := h.precedence
  memory := h.memory

theorem onComposer_unwritten (s : State) (f : Composer → Composer) : UnwrittenFrame s (s.onComposer f) :=
  ⟨by constructor <;> rfl, rfl⟩

theorem freeChannel_unwritten (s : State) : UnwrittenFrame s s.freeChannel := ⟨by constructor <;> rfl, rfl⟩

theorem writeBlock_logic (s : State) (b : BlockName) (v : Block) : LogicFrame s (s.writeBlock b v) := by constructor <;> rfl

theorem takeGrant_unwritten (s : State) (q : Requester) (c : Option Access) :
    UnwrittenFrame s { s.takeGrant q with channel := c } := by
  unfold State.takeGrant
  cases q with
  | composer => exact ⟨by constructor <;> rfl, rfl⟩
  | engineRead => exact ⟨by constructor <;> rfl, rfl⟩
  | drain => cases s.buffer.drainHead <;> exact ⟨by constructor <;> rfl, rfl⟩
  | clear => exact ⟨by constructor <;> rfl, rfl⟩

/-- A grant leaves the configuration logic, whichever request it is made to (R139). -/
theorem grantEvent_unwritten {s t : State} (h : s.grantEvent = .next t) : UnwrittenFrame s t := by
  unfold State.grantEvent State.startAccess at h
  split at h
  · split at h
    · split at h
      · cases h; exact takeGrant_unwritten s _ _
      · cases h
    · cases h; exact .refl s
  · cases h; exact .refl s

theorem frameStart_unwritten (s : State) : UnwrittenFrame s s.frameStart := by
  unfold State.frameStart
  split
  · exact ((passFrame_frame s).event.unwritten.trans (onComposer_unwritten _ _)).trans (postAll_frame _ _).event.unwritten
  · exact .refl s

theorem lineDue_unwritten (s : State) : UnwrittenFrame s s.lineDue := by
  unfold State.lineDue State.lineDueAt
  split
  · simp only []
    split
    · exact onComposer_unwritten s _
    · split
      · exact onComposer_unwritten s _
      · exact (onComposer_unwritten s _).trans (postAll_frame _ _).event.unwritten
  · exact .refl s

theorem trailingBlankLine_unwritten (s : State) : UnwrittenFrame s s.trailingBlankLine := by
  unfold State.trailingBlankLine
  split
  · exact onComposer_unwritten s _
  · exact .refl s

theorem underfillCompletion_unwritten (s : State) : UnwrittenFrame s s.underfillCompletion := by
  unfold State.underfillCompletion
  split
  · exact (freeChannel_unwritten s).trans (completeUnderfill_event _ _).unwritten
  · exact .refl s

theorem engineReadDelivery_unwritten (s : State) : UnwrittenFrame s s.engineReadDelivery := by
  unfold State.engineReadDelivery
  split
  · exact ((freeChannel_unwritten s).trans (onBuffer_event _ _).unwritten).trans (onEngine_event _ _).unwritten
  · exact .refl s

theorem fetchCompletion_unwritten (s : State) : UnwrittenFrame s s.fetchCompletion := by
  unfold State.fetchCompletion
  split
  · exact (freeChannel_unwritten s).trans (onComposer_unwritten _ _)
  · exact .refl s

/-- The completion of a block write stores to memory and leaves the configuration logic (R124). -/
theorem blockWriteCompletion_logic (s : State) : LogicFrame s s.blockWriteCompletion := by
  unfold State.blockWriteCompletion
  split
  · exact ((freeChannel_unwritten s).toLogicFrame.trans (writeBlock_logic _ _ _)).trans
      (completeBlockWrite_event _).unwritten.toLogicFrame
  · exact .refl s

end Sys2Proof.Machine
end

section
/-! SUPPORT. That every block named stays inside the surface, as an invariant of each operation: what each part of the
state may name on the surface of a reference state, and that the lease, drawing, display and channel operations keep it
(R18, R86, R137). -/

namespace Sys2Proof.Machine

set_option Elab.async false

/-! ### What the surface of a reference state admits -/

/-- The part has left SETUP, in which no block has work (R5, R6). -/
def State.active (g : State) : Prop := g.globalState ≠ .setup

/-- A region that a window or a waiting request may have. -/
def State.admits (g : State) (r : Region) : Prop := g.active ∧ g.covers r

/-- A block that a requester may name. -/
def State.admitsBlock (g : State) (b : BlockName) : Prop := g.active ∧ g.holdsBlock b

/-- A command that the engine may hold. -/
def State.admitsCommand (g : State) (a : ActiveCommand) : Prop := g.active ∧ g.CommandInside a

/-- A place that the age order may have. -/
def State.admitsItem (g : State) : AgeItem → Prop
  | .entry e => g.admitsBlock e.block
  | .marker _ => g.active

/-- What the window table, the lease slots and the age order of `t` name lies on the surface of `g`. -/
structure TableInside (g t : State) : Prop where
  windows : ∀ i w, (t.slot i).window = some w → g.admits w.region
  waiting : ∀ p w, (t.leaseSlots.get p).waiting = some w → g.admits w.request.region
  items : ∀ it ∈ t.buffer.items, g.admitsItem it

/-- What the Composer fetches lies on the surface of `g`. -/
structure ComposerInside (g : State) (c : Composer) : Prop where
  running : c.running = true → g.active
  fetchLine : ∀ y, c.fetchLine = some y → g.active ∧ y < g.surfaceHeight
  fetchList : ∀ b ∈ c.fetchList, g.active ∧ b.column < g.surfaceWidth / 16

/-- The engine's command, if it holds one, lies on the surface of `g`. -/
def EngineInside (g : State) (e : Engine) : Prop := ∀ a, e.current = some a → g.admitsCommand a

/-- Everything that `t` names lies on the surface of `g`, which is one that a commit accepts, and `t` has work only where `g`
has left SETUP. -/
structure Inside (g t : State) : Prop extends TableInside g t where
  geometry : g.active → 0 < g.surfaceHeight ∧ 0 < g.surfaceWidth / 16 ∧ g.surfaceWidth % 16 = 0
  queues : ∀ p, (t.ports.get p).queue ≠ [] → g.active
  engineRead : ∀ r, t.buffer.engineRead = some r → g.admitsBlock r.block
  engine : EngineInside g t.engine
  channel : ∀ a, t.channel = some a → g.admitsBlock a.block
  clear : ∀ b, t.clearPosition = some b → g.admitsBlock b
  composer : ComposerInside g t.composer

/-! ### The invariant in these terms -/

theorem eq_none_of_imp_false {α : Type} {o : Option α} (h : ∀ a, o ≠ some a) : o = none :=
  Option.eq_none_iff_forall_not_mem.mpr h

/-- The window of a slot is absent in FREE alone (R19). -/
theorem Slot.window_eq_none_iff (sl : Slot) : sl.window = none ↔ sl.state = .free := by
  unfold Slot.window
  cases sl.state <;> simp

theorem mem_entries {b : Buffer} {e : Entry} : e ∈ b.entries ↔ .entry e ∈ b.items := by
  simp only [Buffer.entries, List.mem_filterMap]
  constructor
  · rintro ⟨it, hit, h⟩
    cases it with
    | entry e' => cases h; exact hit
    | marker m => cases h
  · exact fun h => ⟨_, h, rfl⟩

theorem SurfaceLaws.active {s : State} (h : SurfaceLaws s) {q : Prop} (work : Quiescent s → q → False) (hq : q) :
    s.active := fun setup => work (h.setup setup) hq

/-- The laws of the surface place every part of the state on its own surface. -/
theorem SurfaceLaws.inside {s : State} (h : SurfaceLaws s) : Inside s s where
  geometry := h.geometry
  windows i w e :=
    ⟨h.active (fun q e => by rw [(Slot.window_eq_none_iff _).mpr (q.table i)] at e; cases e) e, h.windows i w e⟩
  waiting p w e := ⟨h.active (fun q e => by rw [q.leases p] at e; cases e) e, h.waiting p w e⟩
  items it m := by
    have act : s.active := h.active (fun q m => by rw [q.items] at m; cases m) m
    cases it with
    | entry e => exact ⟨act, h.entries e (mem_entries.mpr m)⟩
    | marker k => exact act
  queues p := h.active fun q ne => ne (q.queues p)
  engineRead r e := ⟨h.active (fun q e => by rw [q.engineRead] at e; cases e) e, h.engineRead r e⟩
  engine a e := ⟨h.active (fun q e => by rw [q.engine] at e; cases e) e, h.command a e⟩
  channel a e := ⟨h.active (fun q e => by rw [q.channel] at e; cases e) e, h.channel a e⟩
  clear b e := ⟨h.active (fun q e => by rw [q.clear] at e; cases e) e, h.clear b e⟩
  composer :=
    { running := h.active fun q e => by rw [q.running] at e; cases e
      fetchLine := fun y e => ⟨h.active (fun q e => by rw [q.fetchLine] at e; cases e) e, h.fetchLine y e⟩
      fetchList := fun b m => ⟨h.active (fun q m => by rw [q.fetchList] at m; cases m) m, h.fetchList b m⟩ }

/-- In SETUP a state that names nothing outside an inactive surface has no work. -/
theorem Inside.quiescent {g t : State} (h : Inside g t) (setup : ¬ g.active) : Quiescent t where
  table i := (Slot.window_eq_none_iff _).mp (eq_none_of_imp_false fun w e => setup (h.windows i w e).1)
  leases p := eq_none_of_imp_false fun w e => setup (h.waiting p w e).1
  queues p := by_contra fun ne => setup (h.queues p ne)
  engine := eq_none_of_imp_false fun a e => setup (h.engine a e).1
  items := List.eq_nil_iff_forall_not_mem.mpr fun it m => setup (by
    have := h.items it m
    cases it with
    | entry e => exact this.1
    | marker k => exact this)
  engineRead := eq_none_of_imp_false fun r e => setup (h.engineRead r e).1
  channel := eq_none_of_imp_false fun a e => setup (h.channel a e).1
  clear := eq_none_of_imp_false fun b e => setup (h.clear b e).1
  running := Bool.eq_false_of_not_eq_true fun e => setup (h.composer.running e)
  fetchLine := eq_none_of_imp_false fun y e => setup (h.composer.fetchLine y e).1
  fetchList := List.eq_nil_iff_forall_not_mem.mpr fun b m => setup (h.composer.fetchList b m).1

/-- The laws of the surface from the placement of every part on the state's own surface. -/
theorem Inside.self_laws {s : State} (h : Inside s s) (reset : s.deviceReset = true → s.globalState = .setup) :
    SurfaceLaws s where
  reset := reset
  setup e := h.quiescent fun act => act e
  geometry := h.geometry
  windows i w e := (h.windows i w e).2
  waiting p w e := (h.waiting p w e).2
  entries _ m := (h.items _ (mem_entries.mp m)).2
  engineRead r e := (h.engineRead r e).2
  channel a e := (h.channel a e).2
  fetchLine y e := (h.composer.fetchLine y e).2
  fetchList b m := (h.composer.fetchList b m).2
  clear b e := (h.clear b e).2
  command a e := (h.engine a e).2

/-- A state without work names nothing outside any surface. -/
theorem Quiescent.inside {g t : State} (q : Quiescent t)
    (geometry : g.active → 0 < g.surfaceHeight ∧ 0 < g.surfaceWidth / 16 ∧ g.surfaceWidth % 16 = 0) : Inside g t where
  geometry := geometry
  windows i w e := by rw [(Slot.window_eq_none_iff _).mpr (q.table i)] at e; cases e
  waiting p w e := by rw [q.leases p] at e; cases e
  items it m := by rw [q.items] at m; cases m
  queues p ne := absurd (q.queues p) ne
  engineRead r e := by rw [q.engineRead] at e; cases e
  engine a e := by rw [q.engine] at e; cases e
  channel a e := by rw [q.channel] at e; cases e
  clear b e := by rw [q.clear] at e; cases e
  composer :=
    { running := fun e => by rw [q.running] at e; cases e
      fetchLine := fun y e => by rw [q.fetchLine] at e; cases e
      fetchList := fun b m => by rw [q.fetchList] at m; cases m }

/-! ### The surface depends on the configuration, and on the global state through SETUP alone -/

section SameSurface

variable {g k : State} (active : k.active ↔ g.active) (config : k.config = g.config)
include active config

theorem State.admits_congr {r : Region} (h : g.admits r) : k.admits r := by
  unfold State.admits State.covers State.surfaceWidth State.surfaceHeight at h ⊢
  rwa [active, config]

theorem State.admitsBlock_congr {b : BlockName} (h : g.admitsBlock b) : k.admitsBlock b := by
  unfold State.admitsBlock State.holdsBlock State.surfaceWidth State.surfaceHeight at h ⊢
  rwa [active, config]

theorem State.admitsItem_congr {it : AgeItem} (h : g.admitsItem it) : k.admitsItem it := by
  cases it with
  | entry e => exact State.admitsBlock_congr active config h
  | marker m => exact active.mpr h

theorem State.admitsCommand_congr {a : ActiveCommand} (h : g.admitsCommand a) : k.admitsCommand a := by
  obtain ⟨act, c⟩ := h
  refine ⟨active.mpr act, { c with rectangle := ?_, source := fun rop mask h sx sy key e => ?_ }⟩
  · exact (State.admits_congr active config ⟨act, c.rectangle⟩).2
  · exact (State.admits_congr active config ⟨act, c.source rop mask h sx sy key e⟩).2

theorem Inside.congr {t : State} (h : Inside g t) : Inside k t := by
  have height : k.surfaceHeight = g.surfaceHeight := by unfold State.surfaceHeight; rw [config]
  have width : k.surfaceWidth = g.surfaceWidth := by unfold State.surfaceWidth; rw [config]
  exact
    { geometry := by rw [height, width, active]; exact h.geometry
      windows := fun i w e => State.admits_congr active config (h.windows i w e)
      waiting := fun p w e => State.admits_congr active config (h.waiting p w e)
      items := fun it m => State.admitsItem_congr active config (h.items it m)
      queues := fun p ne => active.mpr (h.queues p ne)
      engineRead := fun r e => State.admitsBlock_congr active config (h.engineRead r e)
      engine := fun a e => State.admitsCommand_congr active config (h.engine a e)
      channel := fun a e => State.admitsBlock_congr active config (h.channel a e)
      clear := fun b e => State.admitsBlock_congr active config (h.clear b e)
      composer :=
        { running := fun e => active.mpr (h.composer.running e)
          fetchLine := by simp only [height, active]; exact h.composer.fetchLine
          fetchList := by simp only [width, active]; exact h.composer.fetchList } }

end SameSurface

/-- The laws of the surface from the placement of every part on the surface of another state with the same geometry. -/
theorem Inside.laws {s t : State} (h : Inside s t) (active : t.active ↔ s.active) (config : t.config = s.config)
    (reset : t.deviceReset = true → t.globalState = .setup) : SurfaceLaws t := (h.congr active config).self_laws reset

/-- An event that keeps the configuration logic and names nothing outside the surface keeps the laws of the surface. -/
theorem SurfaceLaws.of_inside {s t : State} (h : SurfaceLaws s) (frame : LogicFrame s t) (inside : Inside s t) :
    SurfaceLaws t := by
  have active : t.active ↔ s.active := by unfold State.active; rw [frame.globalState]
  refine inside.laws active frame.config fun reset => ?_
  rw [frame.globalState]
  exact h.reset (frame.deviceReset ▸ reset)

/-! ### The named updates -/

section Updates

variable {g s : State}

theorem Inside.onPort (h : Inside g s) (p : Port) {f : HostPort → HostPort}
    (hf : (f (s.ports.get p)).queue ≠ [] → g.active) : Inside g (s.onPort p f) :=
  { h with
    queues := fun r => by
      by_cases e : r = p
      · subst e; rw [State.onPort_get_self]; exact hf
      · rw [State.onPort_get_of_ne s f e]; exact h.queues r }

/-- An update of a port that keeps its command queue. -/
theorem Inside.onPort_queue (h : Inside g s) (p : Port) {f : HostPort → HostPort}
    (hf : ∀ hp, (f hp).queue = hp.queue := by intro _; rfl) : Inside g (s.onPort p f) :=
  h.onPort p (by rw [hf]; exact h.queues p)

theorem Inside.onEngine (h : Inside g s) {f : Engine → Engine} (hf : EngineInside g (f s.engine)) :
    Inside g (s.onEngine f) := { h with engine := hf }

theorem Inside.onComposer (h : Inside g s) {f : Composer → Composer} (hf : ComposerInside g (f s.composer)) :
    Inside g (s.onComposer f) := { h with composer := hf }

theorem Inside.onBuffer (h : Inside g s) {f : Buffer → Buffer} (items : ∀ it ∈ (f s.buffer).items, g.admitsItem it)
    (read : ∀ r, (f s.buffer).engineRead = some r → g.admitsBlock r.block) : Inside g (s.onBuffer f) :=
  { h with items := items, engineRead := read }

theorem TableInside.onSlot (h : TableInside g s) (i : SlotNo) {f : Slot → Slot}
    (hf : ∀ w, (f (s.slot i)).window = some w → g.admits w.region) : TableInside g (s.onSlot i f) :=
  { h with
    windows := fun j w => by
      rw [State.onSlot_slot]
      split
      · exact hf w
      · exact h.windows j w }

/-- An update of a slot that keeps its state. -/
theorem TableInside.onSlot_state (h : TableInside g s) (i : SlotNo) {f : Slot → Slot}
    (hf : ∀ sl, (f sl).state = sl.state) : TableInside g (s.onSlot i f) :=
  h.onSlot i fun w e => h.windows i w (by unfold Slot.window at e ⊢; rwa [hf] at e)

theorem TableInside.onLease (h : TableInside g s) (p : Port) {f : LeaseSlot → LeaseSlot}
    (hf : ∀ w, (f (s.leaseSlots.get p)).waiting = some w → g.admits w.request.region) : TableInside g (s.onLease p f) :=
  { h with
    waiting := fun r w => by
      by_cases e : r = p
      · subst e; rw [State.onLease_get_self]; exact hf w
      · rw [State.onLease_get_of_ne s f e]; exact h.waiting r w }

/-- A state with the same window table, lease slots and age order. -/
theorem TableInside.of_eq {t : State} (h : TableInside g s) (table : t.table = s.table)
    (leases : t.leaseSlots = s.leaseSlots) (items : t.buffer.items = s.buffer.items) : TableInside g t where
  windows i w := by rw [State.slot_of_table table]; exact h.windows i w
  waiting p w := by rw [leases]; exact h.waiting p w
  items it := by rw [items]; exact h.items it

theorem TableInside.post (h : TableInside g s) (p : Port) (n : Notice) : TableInside g (s.post p n) :=
  h.of_eq rfl rfl rfl

theorem TableInside.postList (h : TableInside g s) (p : Port) (ns : List Notice) : TableInside g (s.postList p ns) := by
  rw [State.postList_eq]; exact h.of_eq rfl rfl rfl

/-- Work of the Lease Manager keeps everything in place that keeps what it reaches in place. -/
theorem Inside.lease {t : State} (h : Inside g s) (frame : LeaseFrame s t) (table : TableInside g t) : Inside g t :=
  { table with
    geometry := h.geometry
    queues := fun p => by
      have queue : (t.ports.get p).queue = (s.ports.get p).queue := congrArg (fun hp => hp.queue) (frame.ports p)
      rw [queue]; exact h.queues p
    engineRead := fun r => by rw [frame.engineRead]; exact h.engineRead r
    engine := fun a => by rw [frame.current]; exact h.engine a
    channel := fun a => by rw [frame.channel]; exact h.channel a
    clear := fun b => by rw [frame.clearPosition]; exact h.clear b
    composer := by rw [frame.composer]; exact h.composer }

theorem Inside.post (h : Inside g s) (p : Port) (n : Notice) : Inside g (s.post p n) :=
  h.lease (post_frame s p n) (h.toTableInside.post p n)

theorem Inside.postAll (h : Inside g s) (n : Notice) : Inside g (s.postAll n) :=
  h.lease (postAll_frame s n) (h.toTableInside.of_eq rfl rfl rfl)

end Updates

/-! ### The age order's operations -/

theorem mem_takeMarkers {p : Port} {items : List AgeItem} {it : AgeItem} (h : it ∈ (takeMarkers p items).2) :
    it ∈ items := by
  induction items with
  | nil => exact h
  | cons head rest ih =>
    cases head with
    | entry e =>
      by_cases port : e.port = p
      · simpa [takeMarkers, port] using h
      · simp only [takeMarkers, port, if_false, List.mem_cons] at h ⊢
        exact h.imp_right ih
    | marker m =>
      by_cases port : m.port = p
      · simp only [takeMarkers, port, if_true] at h
        exact List.mem_cons_of_mem _ (ih h)
      · simp only [takeMarkers, port, if_false, List.mem_cons] at h ⊢
        exact h.imp_right ih

theorem mem_removeOldest {q : Entry → Bool} {items : List AgeItem} {it : AgeItem} (h : it ∈ removeOldest q items) :
    it ∈ items := by
  induction items with
  | nil => exact h
  | cons head rest ih =>
    cases head with
    | entry e =>
      cases hq : q e
      · simp only [removeOldest, hq, Bool.false_eq_true, if_false, List.mem_cons] at h ⊢
        exact h.imp_right ih
      · simp only [removeOldest, hq, if_true] at h
        exact List.mem_cons_of_mem _ h
    | marker m =>
      simp only [removeOldest, List.mem_cons] at h ⊢
      exact h.imp_right ih

theorem mem_changeOldest {q : Entry → Bool} {f : Entry → Entry} {items : List AgeItem} {it : AgeItem}
    (h : it ∈ changeOldest q f items) : it ∈ items ∨ ∃ e, .entry e ∈ items ∧ it = .entry (f e) := by
  induction items with
  | nil => exact .inl h
  | cons head rest ih =>
    have tail (m : it ∈ changeOldest q f rest) :
        it ∈ head :: rest ∨ ∃ e, .entry e ∈ head :: rest ∧ it = .entry (f e) := by
      rcases ih m with old | ⟨e, old, rfl⟩
      · exact .inl (List.mem_cons_of_mem _ old)
      · exact .inr ⟨e, List.mem_cons_of_mem _ old, rfl⟩
    cases head with
    | entry e =>
      cases hq : q e
      · simp only [changeOldest, hq, Bool.false_eq_true, if_false] at h
        rcases List.mem_cons.mp h with rfl | h
        · exact .inl List.mem_cons_self
        · exact tail h
      · simp only [changeOldest, hq, if_true] at h
        rcases List.mem_cons.mp h with rfl | h
        · exact .inr ⟨e, List.mem_cons_self, rfl⟩
        · exact .inl (List.mem_cons_of_mem _ h)
    | marker m =>
      rcases List.mem_cons.mp h with rfl | h
      · exact .inl List.mem_cons_self
      · exact tail h

section AgeOrder

variable {g : State} {items : List AgeItem} (h : ∀ it ∈ items, g.admitsItem it)
include h

theorem admitsItem_changeOldest (q : Entry → Bool) {f : Entry → Entry} (hf : ∀ e, (f e).block = e.block) :
    ∀ it ∈ changeOldest q f items, g.admitsItem it := by
  intro it m
  rcases mem_changeOldest m with old | ⟨e, old, rfl⟩
  · exact h it old
  · have entry : g.admitsBlock e.block := h _ old
    show g.admitsBlock (f e).block
    rwa [hf]

theorem admitsItem_changeYoungest (q : Entry → Bool) {f : Entry → Entry} (hf : ∀ e, (f e).block = e.block) :
    ∀ it ∈ changeYoungest q f items, g.admitsItem it := by
  intro it m
  refine admitsItem_changeOldest (items := items.reverse) (fun it m => h it (List.mem_reverse.mp m)) q hf it ?_
  exact List.mem_reverse.mp m

theorem admitsItem_voidItems (n : Handle) : ∀ it ∈ voidItems n items, g.admitsItem it := by
  intro it m
  obtain ⟨old, filtered, rfl⟩ := List.mem_map.mp m
  have kept := h old (List.mem_of_mem_filter filtered)
  cases old with
  | entry e =>
    show g.admitsBlock (Entry.voidFilling n e).block
    unfold Entry.voidFilling
    split <;> exact kept
  | marker k => exact kept

end AgeOrder

/-! ### The Lease Manager -/

section Leases

variable {g s : State} (h : TableInside g s)
include h

theorem TableInside.withItems {items : List AgeItem} (v : BitVec 32) (hi : ∀ it ∈ items, g.admitsItem it) :
    TableInside g (s.onBuffer fun b => { b with items := items, voided := v }) := { h with items := hi }

theorem TableInside.completeMarkers (p : Port) : TableInside g (s.completeMarkers p) :=
  (h.withItems s.buffer.voided fun it m => h.items it (mem_takeMarkers m)).postList p _

theorem TableInside.signalDeparture : TableInside g s.signalDeparture := h.of_eq rfl rfl rfl

theorem TableInside.freeingCheck (i : SlotNo) : TableInside g (s.freeingCheck i) := by
  have freed : TableInside g (s.onSlot i fun sl => { sl with state := .free }) := h.onSlot i fun w e => by cases e
  unfold State.freeingCheck
  split
  · exact freed.post _ _
  · exact freed
  · exact h

theorem TableInside.voidEntries (n : Handle) (owner : Port) : TableInside g (s.voidEntries n owner) := by
  have voided := (h.withItems (s.buffer.voided + BitVec.ofNat 32 (s.buffer.entries.countP (Entry.leavesAtRevocation n)))
    (admitsItem_voidItems h.items n)).onSlot_state n.slot (f := fun sl =>
      { sl with outstanding := sl.outstanding - s.buffer.entries.countP (Entry.leavesAtRevocation n) }) fun _ => rfl
  unfold State.voidEntries
  simp only []
  split
  · exact voided
  · exact voided.signalDeparture.completeMarkers owner

theorem TableInside.revokeWindow (i : SlotNo) {w : Window} (hw : (s.slot i).window = some w) (passed : Bool)
    (q : Option Port) : TableInside g (s.revokeWindow i w passed q) := by
  have revoked : TableInside g (s.onSlot i fun sl => { sl with state := .revoked w passed }) :=
    h.onSlot i fun v e => by cases e; exact h.windows i w hw
  have freed := (revoked.voidEntries ⟨i, (s.slot i).generation⟩ w.owner).freeingCheck i
  unfold State.revokeWindow
  cases q with
  | none => exact freed
  | some q => exact freed.post _ _

theorem TableInside.revoke (i : SlotNo) (q : Option Port) : TableInside g (s.revoke i q) := by
  unfold State.revoke
  split
  · next w e => exact h.revokeWindow i (by simp [Slot.window, e]) _ q
  · next w passed e => exact h.revokeWindow i (by simp [Slot.window, e]) _ q
  · exact h

omit h in
theorem TableInside.foldl {α : Type} {f : State → α → State}
    (hf : ∀ t a, TableInside g t → TableInside g (f t a)) (l : List α) {s : State} (h : TableInside g s) :
    TableInside g (l.foldl f s) := by
  induction l generalizing s with
  | nil => exact h
  | cons a rest ih => exact ih (hf s a h)

theorem TableInside.performGrant (p : Port) {r : LeaseRequest} (hr : g.admits r.region) (revoked : List SlotNo) :
    TableInside g (s.performGrant p r revoked).1 := by
  have cleared := TableInside.foldl (fun t i k => TableInside.revoke k i (some p)) revoked h
  unfold State.performGrant
  simp only []
  split
  · exact cleared.onSlot _ fun w e => by cases e; exact hr
  · exact cleared

theorem TableInside.record (p : Port) (o : LeaseOperation) (r : LeaseResult) (n : Option Handle) :
    TableInside g (s.record p o r n) := h.onLease p fun w e => h.waiting p w e

theorem TableInside.unwait (p : Port) : TableInside g (s.unwait p) :=
  (h.of_eq (t := { s with waitList := s.waitList.erase p }) rfl rfl rfl).onLease p fun w e => by cases e

theorem TableInside.park (p : Port) {r : LeaseRequest} (hr : g.admits r.region) : TableInside g (s.park p r) := by
  have joined : TableInside g { s with waitList := joinWaitList s.precedence p s.waitList, parkings := s.parkings + 1 } :=
    h.of_eq rfl rfl rfl
  exact (joined.onLease p fun w e => by cases e; exact hr).record p _ _ _

theorem TableInside.evaluateOne (p : Port) : TableInside g (s.evaluateOne p).1 := by
  unfold State.evaluateOne
  split
  · exact h
  · next w hw =>
    split
    · exact h
    · exact h
    · next revoked _ =>
      have granted := h.performGrant p (h.waiting p w hw) revoked
      split
      · next t n e => rw [e] at granted; exact ((granted.unwait p).record p _ _ _).post p _
      · next t e => rw [e] at granted; exact granted

theorem TableInside.evaluationPass : TableInside g s.evaluationPass.1 := by
  unfold State.evaluationPass
  generalize s.waitList = ps
  suffices key : ∀ acc : State × Bool, TableInside g acc.1 → TableInside g (ps.foldl (fun (acc : State × Bool) p =>
      ((acc.1.evaluateOne p).1, acc.2 || (acc.1.evaluateOne p).2)) acc).1 from key (s, false) h
  induction ps with
  | nil => exact fun _ k => k
  | cons p rest ih => exact fun acc k => ih _ (k.evaluateOne p)

omit h in
theorem TableInside.evaluationPasses (n : Nat) {s : State} (h : TableInside g s) :
    TableInside g (State.evaluationPasses n s) := by
  induction n generalizing s with
  | zero => exact h
  | succ n ih =>
    unfold State.evaluationPasses
    split
    · exact ih h.evaluationPass
    · exact h.evaluationPass

theorem TableInside.evaluateWaitList : TableInside g s.evaluateWaitList := h.evaluationPasses _

theorem TableInside.departed (e : Entry) : TableInside g (s.departed e) := by
  have left : TableInside g (s.onSlot e.handle.slot Slot.leave) := h.onSlot_state _ fun _ => rfl
  have done := ((left.freeingCheck e.handle.slot).signalDeparture).completeMarkers e.port
  unfold State.departed
  simp only []
  split
  · exact done.evaluateWaitList
  · exact done

theorem TableInside.passFrame : TableInside g s.passFrame := by
  have window (sl : Slot) : sl.passFrame.window = sl.window := by
    unfold Slot.passFrame Slot.window
    cases e : sl.state <;> simp [e]
  have passed : TableInside g { s with table := Vector.ofFn fun i => s.table[i].passFrame } :=
    { h with windows := fun i w e => h.windows i w (by rw [← window]; simpa [State.slot] using e) }
  have freed := TableInside.foldl (fun t i k => k.freeingCheck i) allSlots passed
  unfold State.passFrame
  simp only []
  split
  · exact freed.evaluateWaitList
  · exact freed

theorem TableInside.revokeOwned (p : Port) : TableInside g (s.revokeOwned p) :=
  TableInside.foldl (fun _ i k => k.revoke i none) _ h

omit h in
/-- A handle that passes the checks of RELEASE and SET_VISIBLE names a HELD slot (R50, R51). -/
theorem checkLease_held {p : Port} {n : Handle} {w : Window} (e : s.checkLease p n = .ok w) :
    (s.slot n.slot).state = .held w := by
  unfold State.checkLease at e
  split at e
  · cases e
  split at e
  · cases e
  split at e
  · cases e
  · next held => split at e <;> cases e; exact held
  · split at e <;> cases e
  · split at e <;> cases e

theorem TableInside.release (p : Port) (n : Handle) : TableInside g (s.release p n) := by
  unfold State.release
  split
  · exact h.record _ _ _ _
  · next w e =>
    refine (h.onSlot n.slot fun v hv => ?_).record _ _ _ _
    cases hv
    exact h.windows n.slot w (by simp [Slot.window, checkLease_held e])

theorem TableInside.setVisible (p : Port) (n : Handle) (b : Bool) : TableInside g (s.setVisible p n b) := by
  unfold State.setVisible
  split
  · exact h.record _ _ _ _
  · next w e =>
    split
    · refine (h.onSlot n.slot fun v hv => ?_).record _ _ _ _
      cases hv
      exact h.windows n.slot w (by simp [Slot.window, checkLease_held e])
    · exact h.record _ _ _ _

theorem TableInside.cancel (p : Port) : TableInside g (s.cancel p) := by
  unfold State.cancel
  split
  · exact h.record _ _ _ _
  split
  · exact (h.unwait p).record _ _ _ _
  · exact h.record _ _ _ _

theorem TableInside.timeoutLease (p : Port) : TableInside g (s.timeoutLease p) := by
  unfold State.timeoutLease
  split
  · exact ((h.unwait p).record _ _ _ _).post _ _
  · exact h

omit h in
/-- A staged request that is accepted lies inside the surface (R42). -/
theorem stagedRequest_inside {w k : Nat} {l : LeaseStaging} {r : LeaseRequest} (e : stagedRequest w k l = some r) :
    r.region.x + r.region.width ≤ w ∧ r.region.y + r.region.height ≤ k := by
  unfold stagedRequest at e
  split at e
  · split at e
    · next ok =>
      obtain ⟨-, -, -, -, x, y, -⟩ := ok
      cases e
      exact ⟨x, y⟩
    · cases e
  · cases e

omit h in
theorem TableInside.request (h : TableInside s s) (p : Port) : TableInside s (s.request p) := by
  unfold State.request
  split
  · exact h.record _ _ _ _
  next run =>
  split
  · exact h.record _ _ _ _
  split
  · exact h.record _ _ _ _
  · next r staged =>
    have act : s.active := fun setup => by rw [setup] at run; exact run rfl
    have room : s.admits r.region := ⟨act, stagedRequest_inside staged⟩
    split
    · exact h.record _ _ _ _
    split
    · split
      · exact h.park p room
      · exact h.record _ _ _ _
    · split
      · exact h.park p room
      · exact h.record _ _ _ _
    · next revoked _ =>
      have granted := h.performGrant p room revoked
      split
      · next t n e =>
        rw [e] at granted
        simp only []
        split
        · exact granted.record _ _ _ _
        · exact (granted.record _ _ _ _).evaluateWaitList
      · next t e => rw [e] at granted; exact granted

omit h in
theorem TableInside.leaseOp (h : TableInside s s) (p : Port) (o : LeaseOpWord) : TableInside s (s.leaseOp p o) := by
  unfold State.leaseOp
  split
  · exact h.request p
  split
  · exact h.release p _
  split
  · exact h.setVisible p _ _
  · exact h.cancel p

end Leases

end Sys2Proof.Machine
end

section
/-! SUPPORT. That the engine's command and its spans stay inside the surface, and so every block that a drawing event
names (R86 to R89, R94, R137). -/

namespace Sys2Proof.Machine

set_option Elab.async false

/-! ### The spans of a command (R88) -/

/-- `q` is a row and a block column of the command's rectangle. -/
def ActiveCommand.spans (a : ActiveCommand) (q : SpanPosition) : Prop :=
  (a.top ≤ q.row ∧ q.row ≤ a.bottom) ∧ a.left / 16 ≤ q.column ∧ q.column ≤ a.right / 16

section Commands

variable {g : State} {a b : ActiveCommand} {q r : SpanPosition}

theorem State.admitsCommand.spans (h : g.admitsCommand a) (hq : a.position = some q) : a.spans q :=
  ⟨h.2.row q hq, h.2.column q hq⟩

/-- A command with the same rectangle and source stays inside the surface with every span of it. -/
theorem State.admitsCommand.of_same (h : g.admitsCommand a) (clip : b.clip = a.clip) (command : b.command = a.command)
    (position : ∀ q, b.position = some q → a.spans q) : g.admitsCommand b := by
  have rectangle : b.rectangle = a.rectangle := by unfold ActiveCommand.rectangle; rw [clip, command]
  obtain ⟨act, c⟩ := h
  refine ⟨act, ⟨clip ▸ c.width, clip ▸ c.height, rectangle ▸ c.rectangle, ?_, ?_, ?_⟩⟩
  · rw [clip, command]; exact c.source
  · unfold ActiveCommand.top ActiveCommand.bottom
    rw [rectangle]
    exact fun q hq => (position q hq).1
  · unfold ActiveCommand.left ActiveCommand.right
    rw [rectangle]
    exact fun q hq => (position q hq).2

/-- A command that differs in what has been done for its span. -/
theorem State.admitsCommand.of_work (h : g.admitsCommand a) (clip : b.clip = a.clip) (command : b.command = a.command)
    (position : b.position = a.position) : g.admitsCommand b :=
  h.of_same clip command fun _ hq => h.spans (position ▸ hq)

theorem ActiveCommand.beginSpan_same (a : ActiveCommand) :
    a.beginSpan.clip = a.clip ∧ a.beginSpan.command = a.command ∧ a.beginSpan.position = a.position := by
  unfold ActiveCommand.beginSpan
  split <;> exact ⟨rfl, rfl, rfl⟩

theorem State.admitsCommand.beginSpan (h : g.admitsCommand a) : g.admitsCommand a.beginSpan :=
  h.of_work a.beginSpan_same.1 a.beginSpan_same.2.1 a.beginSpan_same.2.2

/-- The first span of a row lies in the rectangle's columns (R88, R89). -/
theorem ActiveCommand.firstColumn_spans (a : ActiveCommand) (width : 1 ≤ a.clip.width) :
    a.left / 16 ≤ a.firstColumn ∧ a.firstColumn ≤ a.right / 16 := by
  have order : a.left ≤ a.right := by
    simp only [ActiveCommand.left, ActiveCommand.right, ActiveCommand.rectangle, Clip.at]; omega
  unfold ActiveCommand.firstColumn
  cases a.blocks <;> simp only [] <;> omega

theorem ActiveCommand.top_le_bottom (a : ActiveCommand) (height : 1 ≤ a.clip.height) : a.top ≤ a.bottom := by
  simp only [ActiveCommand.top, ActiveCommand.bottom, ActiveCommand.rectangle, Clip.at]; omega

/-- The span after a span of the rectangle is one of the rectangle (R88, R89). -/
theorem State.CommandInside.nextPosition (c : g.CommandInside a) (hq : a.spans q) (e : a.nextPosition q = some r) :
    a.spans r := by
  have column := a.firstColumn_spans c.width
  have nextRow (e : a.nextRow q.row = some r) : a.spans r := by
    obtain ⟨⟨above, below⟩, -⟩ := hq
    unfold ActiveCommand.nextRow at e
    split at e <;> split at e <;> cases e
    · exact ⟨⟨by simp only []; omega, by simp only []; omega⟩, column⟩
    · exact ⟨⟨by simp only []; omega, by simp only []; omega⟩, column⟩
  unfold ActiveCommand.nextPosition at e
  obtain ⟨row, first, last⟩ := hq
  split at e <;> split at e
  · cases e; exact ⟨row, by simp only []; omega, by simp only []; omega⟩
  · exact nextRow e
  · cases e; exact ⟨row, by simp only []; omega, by simp only []; omega⟩
  · exact nextRow e

theorem State.admitsCommand.finishSpan (h : g.admitsCommand a) (hq : a.position = some q) :
    g.admitsCommand (a.finishSpan q) :=
  (h.of_same (b := { a with position := a.nextPosition q, spansCompleted := min 65535 (a.spansCompleted + 1) }) rfl rfl
    fun _ e => h.2.nextPosition (h.spans hq) e).beginSpan

theorem State.admitsCommand.settle (h : g.admitsCommand a) (hq : a.position = some q) : g.admitsCommand (a.settle q) := by
  unfold ActiveCommand.settle
  split
  · next v _ _ => exact (h.of_work (b := { a with readbackCarry := some v }) rfl rfl rfl).finishSpan hq
  · exact h.finishSpan hq
  · exact h

theorem State.admitsCommand.takeBlock (h : g.admitsCommand a) (hq : a.position = some q) (v : Block) :
    g.admitsCommand (a.takeBlock q v) := by
  unfold ActiveCommand.takeBlock
  split
  · have read := h.of_work
      (b := { a with work := { a.work with stream := (a.spanXs q).map fun x => blockPixel v (x - 16 * q.column) } }) rfl rfl rfl
    exact read.settle hq
  · split <;> exact h.of_work rfl rfl rfl
  · exact h.of_work rfl rfl rfl

theorem State.admitsCommand.takeWord (h : g.admitsCommand a) (q : SpanPosition) (w : Word) :
    g.admitsCommand (a.takeWord q w) := by
  unfold ActiveCommand.takeWord
  split <;> exact h.of_work rfl rfl rfl

theorem State.admitsCommand.nextWord (h : g.admitsCommand a) {w : Word} (e : a.nextWord = some (w, b)) :
    g.admitsCommand b := by
  unfold ActiveCommand.nextWord at e
  split at e
  · next v _ _ hp hc => cases e; exact h.of_work rfl rfl rfl
  · cases e
  · next q v x rest hp _ _ =>
    cases e
    exact (h.of_work (b := { a with readbackCarry := none, work := { a.work with stream := rest } }) rfl rfl rfl).settle hp
  · next q x y rest hp _ _ =>
    cases e
    exact (h.of_work (b := { a with work := { a.work with stream := rest } }) rfl rfl rfl).settle hp
  · cases e

theorem State.admitsCommand.mark (h : g.admitsCommand a) : g.admitsCommand a.mark := by
  unfold ActiveCommand.mark
  split
  · exact h
  · exact h.of_work rfl rfl rfl

/-! ### The blocks of a span (R88, R94) -/

/-- A span's block is inside the surface where the command is, on a surface of whole blocks. -/
theorem State.admitsCommand.spanBlock (h : g.admitsCommand a) (hq : a.position = some q) (whole : g.surfaceWidth % 16 = 0) :
    g.admitsBlock (a.spanBlock q) := by
  obtain ⟨⟨-, below⟩, -, last⟩ := h.spans hq
  obtain ⟨act, c⟩ := h
  obtain ⟨x, y⟩ := c.rectangle
  have width := c.width
  have height := c.height
  simp only [ActiveCommand.bottom, ActiveCommand.right, ActiveCommand.rectangle, Clip.at] at below last x y
  refine ⟨act, ?_, ?_⟩ <;> simp only [ActiveCommand.spanBlock] <;> omega

/-- The source blocks of a COPY's span are inside the surface where the command is (R87, R94). -/
theorem State.admitsCommand.sourceBlock (h : g.admitsCommand a) (hq : a.position = some q) (whole : g.surfaceWidth % 16 = 0)
    {n : BlockName} (m : n ∈ a.sourceBlockNames q) : g.admitsBlock n := by
  obtain ⟨⟨above, below⟩, -, last⟩ := h.spans hq
  obtain ⟨act, c⟩ := h
  have width := c.width
  have height := c.height
  unfold ActiveCommand.sourceBlockNames at m
  split at m
  · next rop mask source sx sy key kind =>
    obtain ⟨x, y⟩ := c.source _ _ _ _ _ _ kind
    simp only [List.mem_map, List.mem_range'_1] at m
    obtain ⟨column, ⟨lower, upper⟩, rfl⟩ := m
    have bound : column ≤ a.sourceXOf sx (a.spanTo q) / 16 := by omega
    have right : a.spanTo q ≤ a.right := Nat.min_le_left _ _
    simp only [ActiveCommand.top, ActiveCommand.bottom, ActiveCommand.right, ActiveCommand.rectangle,
      ActiveCommand.sourceXOf, Clip.at] at above below bound right x y
    refine ⟨act, ?_, ?_⟩ <;> simp only [] <;> omega
  · cases m

end Commands

/-! ### The start of a command (R84 to R89) -/

/-- A run of offsets that ends no later than a window's run ends inside the window (R86). -/
theorem clipAxis_end {start length windowStart windowLength first past : Nat}
    (h : past ≤ (clipAxis start length windowStart windowLength).2) (ne : 1 ≤ past - first) :
    start + first + (past - first) ≤ windowStart + windowLength := by
  simp only [clipAxis] at h
  omega

theorem Clip.size_of_not_empty {c : Clip} (ne : c.isEmpty = false) : 1 ≤ c.width ∧ 1 ≤ c.height := by
  simp only [Clip.isEmpty, Bool.or_eq_false_iff, beq_eq_false_iff_ne] at ne
  omega

section Clips

variable {g : State} {r w sw : Region} {sx sy : Nat}

/-- The clipped rectangle of a FILL or PATTERN lies inside the surface where its window does (R86). -/
theorem clipToWindow_covers (ne : (clipToWindow r w).isEmpty = false) (hw : g.covers w) :
    g.covers ((clipToWindow r w).at r.x r.y) := by
  obtain ⟨width, height⟩ := Clip.size_of_not_empty ne
  exact ⟨le_trans (clipAxis_end (Nat.le_refl _) width) hw.1, le_trans (clipAxis_end (Nat.le_refl _) height) hw.2⟩

/-- The clipped rectangle of a COPY lies inside the surface at its destination where the destination window does (R87). -/
theorem clipCopy_covers (ne : (clipCopy r w sx sy sw).isEmpty = false) (hw : g.covers w) :
    g.covers ((clipCopy r w sx sy sw).at r.x r.y) := by
  obtain ⟨width, height⟩ := Clip.size_of_not_empty ne
  exact ⟨le_trans (clipAxis_end (Nat.min_le_left _ _) width) hw.1,
    le_trans (clipAxis_end (Nat.min_le_left _ _) height) hw.2⟩

/-- And at its source where the source window does (R87). -/
theorem clipCopy_covers_source (ne : (clipCopy r w sx sy sw).isEmpty = false) (hw : g.covers sw) :
    g.covers ((clipCopy r w sx sy sw).at sx sy) := by
  obtain ⟨width, height⟩ := Clip.size_of_not_empty ne
  exact ⟨le_trans (clipAxis_end (Nat.min_le_right _ _) width) hw.1,
    le_trans (clipAxis_end (Nat.min_le_right _ _) height) hw.2⟩

/-- A whole region that lies inside a window lies inside the surface where the window does (R85, R87). -/
theorem clipWhole_covers (inside : regionInside r w = true) (hw : g.covers w) : g.covers ((clipWhole r).at r.x r.y) := by
  simp only [regionInside, Bool.and_eq_true, decide_eq_true_eq] at inside
  obtain ⟨⟨⟨-, -⟩, right⟩, bottom⟩ := inside
  exact ⟨le_trans right hw.1, le_trans bottom hw.2⟩

end Clips

section Start

variable {g s : State} {p : Port} {c : DrawCommand} {a : ActiveCommand}

theorem activate_inside {layer sourceLayer : Layer} {clip : Clip} {order : RowOrder × BlockOrder} (act : g.active)
    (ne : clip.isEmpty = false) (rectangle : g.covers (clip.at c.region.x c.region.y))
    (source : ∀ rop mask h sx sy key, c.kind = .copy rop mask h sx sy key → g.covers (clip.at sx sy)) :
    g.admitsCommand (activate p c layer sourceLayer clip order) := by
  have size := Clip.size_of_not_empty ne
  unfold activate
  simp only [ne, Bool.false_eq_true, if_false]
  refine ⟨act, { width := size.1, height := size.2, rectangle := rectangle, source := source, row := ?_, column := ?_ }⟩
  all_goals
    rintro q ⟨⟩
    unfold ActiveCommand.firstPosition
  · split
    · exact ⟨Nat.le_refl _, ActiveCommand.top_le_bottom _ size.2⟩
    · exact ⟨ActiveCommand.top_le_bottom _ size.2, Nat.le_refl _⟩
  · split <;> exact ActiveCommand.firstColumn_spans _ size.1

/-- A handle that passes its start checks names a HELD slot (R84). -/
theorem checkHandle_held {n : Handle} {right : Rights → Bool} {w : Window} (e : s.checkHandle p n right = .ok w) :
    (s.slot n.slot).state = .held w := by
  unfold State.checkHandle at e
  split at e
  · cases e
  split at e
  · cases e
  · next held =>
    split at e
    · cases e
    · split at e <;> cases e; exact held
  · split at e <;> cases e
  · split at e <;> cases e

theorem TableInside.checkHandle (h : TableInside g s) {n : Handle} {right : Rights → Bool} {w : Window}
    (e : s.checkHandle p n right = .ok w) : g.admits w.region :=
  h.windows n.slot w (by simp [Slot.window, checkHandle_held e])

/-- A command whose start checks pass and whose clipped rectangle is not empty lies inside the surface (R84 to R87). -/
theorem TableInside.startChecks (h : TableInside g s) (e : s.startChecks p c = .ok a) (ne : a.clip.isEmpty = false) :
    g.admitsCommand a := by
  have clip {layer sourceLayer : Layer} {clip : Clip} {order : RowOrder × BlockOrder} :
      (activate p c layer sourceLayer clip order).clip = clip := by
    unfold activate; split <;> rfl
  unfold State.startChecks at e
  split at e
  · cases e
  next w checked =>
  obtain ⟨act, room⟩ := h.checkHandle checked
  split at e
  · next kind =>
    cases e
    rw [clip] at ne
    exact activate_inside act ne (clipToWindow_covers ne room) fun _ _ _ _ _ _ k => by rw [kind] at k; cases k
  · next kind =>
    cases e
    rw [clip] at ne
    exact activate_inside act ne (clipToWindow_covers ne room) fun _ _ _ _ _ _ k => by rw [kind] at k; cases k
  · next sx sy key kind =>
    split at e
    · cases e
    · next sw source =>
      cases e
      rw [clip] at ne
      refine activate_inside act ne (clipCopy_covers ne room) fun _ _ _ _ _ _ k => ?_
      rw [kind] at k
      cases k
      exact clipCopy_covers_source ne (h.checkHandle source).2
  · next kind =>
    split at e <;> cases e
    next inside =>
    rw [clip] at ne
    exact activate_inside act ne (clipWhole_covers inside room) fun _ _ _ _ _ _ k => by rw [kind] at k; cases k
  · next kind =>
    split at e <;> cases e
    next inside =>
    rw [clip] at ne
    exact activate_inside act ne (clipWhole_covers inside room) fun _ _ _ _ _ _ k => by rw [kind] at k; cases k

end Start

end Sys2Proof.Machine
end

section
/-! SUPPORT. That each event keeps everything in its place on the surface: the host's accesses, the drawing events, the
Composer's, the channel's and start-up (R18, R86, R137). -/

namespace Sys2Proof.Machine

set_option Elab.async false

/-! ### Ends of a command, and the start of one -/

section Events

variable {g s : State} (h : Inside g s)
include h

theorem Inside.onEngine_ended : Inside g (s.onEngine Engine.ended) := h.onEngine fun a e => by cases e

/-- The engine takes up, goes on with or waits for a command inside the surface. -/
theorem Inside.onEngine_current {f : Engine → Engine} {a : ActiveCommand} (ha : g.admitsCommand a)
    (hf : ∀ e, (f e).current = some a) : Inside g (s.onEngine f) :=
  h.onEngine fun b e => by rw [hf] at e; cases e; exact ha

theorem Inside.endDone (p : Port) (c : DrawCommand) : Inside g (s.endDone p c) := by
  have counted {t : State} (k : Inside g t) :
      Inside g ((t.onPort p fun hp => { hp with commandsDone := hp.commandsDone + 1 }).onEngine Engine.ended) :=
    (k.onPort_queue p).onEngine_ended
  unfold State.endDone
  split
  · exact counted (h.post p _)
  · exact counted h

theorem Inside.endFault (p : Port) (c : DrawCommand) (code : FaultCode) (n : Nat) : Inside g (s.endFault p c code n) :=
  ((h.post p _).onPort_queue p).onEngine_ended

theorem Inside.startCommand (p : Port) (c : DrawCommand) : Inside g (s.startCommand p c) := by
  unfold State.startCommand
  split
  · exact h.endFault p c _ _
  · next a started =>
    split
    · exact h.endDone p c
    · next ne =>
      exact h.onEngine_current (h.startChecks started (Bool.eq_false_of_not_eq_true ne)).beginSpan fun _ => rfl

theorem Inside.choiceEvent : Inside g s.choiceEvent := by
  unfold State.choiceEvent
  split
  · split
    · next p _ =>
      split
      · next c head =>
        have queued : g.active := h.queues p fun empty => by rw [HostPort.headDraw, empty] at head; cases head
        have arbitrated : Inside g { s with skips := s.skipsAfter p, pointer := p } := { h with }
        exact (arbitrated.onPort p fun _ => queued).startCommand p c
      · exact h
    · exact h
  · exact h

/-! ### The drawing events -/

theorem Inside.fenceTake (p : Port) : Inside g (s.fenceTake p) := by
  unfold State.fenceTake
  split
  · split
    · next token head =>
      have queued : g.active := h.queues p fun empty => by rw [HostPort.headFence, empty] at head; cases head
      have placed := (h.onPort p (f := fun hp => { hp with queue := hp.queue.tail }) fun _ => queued).onBuffer
        (f := fun b => { b with items := b.items ++ [.marker ⟨p, token⟩] })
        (fun it m => by
          rcases List.mem_append.mp m with old | new
          · exact h.items it old
          · rw [List.mem_singleton.mp new]; exact queued)
        h.engineRead
      exact placed.lease (completeMarkers_frame _ p) (placed.completeMarkers p)
    · exact h
  · exact h

theorem Inside.finishWriting {a : ActiveCommand} (ha : g.admitsCommand a) {q : SpanPosition} (hq : a.position = some q)
    (n : Nat) : Inside g (s.finishWriting a q n) :=
  (h.onPort_queue a.port).onEngine_current (ha.finishSpan hq) fun _ => rfl

theorem Inside.mergePost (o : SpanPost) : Inside g (s.mergePost o) :=
  h.onBuffer (admitsItem_changeYoungest h.items _ fun _ => rfl) h.engineRead

theorem Inside.allocatePost {o : SpanPost} (ho : g.admitsBlock o.block) (owner : Port) :
    Inside g (s.allocatePost o owner) := by
  have close (e : Entry) : e.close.block = e.block := by unfold Entry.close; split <;> rfl
  have placed := h.onBuffer (f := fun b =>
      { b with items := changeYoungest (fun e => e.block == o.block) Entry.close b.items ++
          [.entry ⟨o.block, o.mask, o.values, o.handle, owner, .opened⟩] })
    (fun it m => by
      rcases List.mem_append.mp m with old | new
      · exact admitsItem_changeYoungest h.items _ close it old
      · rw [List.mem_singleton.mp new]; exact ho)
    h.engineRead
  exact placed.lease (onSlot_frame _ _ _) (placed.onSlot_state _ fun _ => rfl)

theorem Inside.spanPost : Inside g s.spanPost := by
  unfold State.spanPost
  split
  · next a current =>
    have ha := h.engine a current
    split
    · next q hq =>
      split
      · unfold State.postSpan
        split
        · exact h.endFault _ _ _ _
        · exact h.onEngine fun b e => h.engine b e
        · exact (h.mergePost _).finishWriting ha hq _
        · exact (h.allocatePost (ha.spanBlock hq (h.geometry ha.1).2.2) _).finishWriting ha hq _
      · exact h
    · exact h
  · exact h

/-- A delivery to the engine keeps its command inside the surface (R119). -/
theorem Inside.deliver (v : Block) : Inside g (s.onEngine (Engine.deliver v)) := by
  refine h.onEngine fun b e => ?_
  unfold Engine.deliver at e
  split at e
  · next idle => rw [show s.engine.current = some b from e] at idle; cases idle
  · next a current =>
    cases e
    split
    · next q hq => exact (h.engine a current).takeBlock hq v
    · exact h.engine a current

theorem Inside.raiseRead {n : BlockName} (hn : g.admitsBlock n) : Inside g (s.raiseRead n) := by
  unfold State.raiseRead
  split
  · exact (h.onBuffer (f := fun b => { b with fullForwards := b.fullForwards + 1 }) h.items h.engineRead).deliver _
  · exact (h.onBuffer (f := fun b => { b with engineRead := some ⟨n, false⟩ }) h.items fun r e => by cases e; exact hn).onEngine
      fun b e => h.engine b e

omit h in
theorem destRead_block {a : ActiveCommand} {q : SpanPosition} {r : NextRead} (e : a.destRead q = some r) :
    r.block = a.spanBlock q := by
  unfold ActiveCommand.destRead at e
  split at e <;> cases e
  rfl

/-- A forwarded read names the span's own block or a source block of it (R94). -/
theorem Inside.nextRead {a : ActiveCommand} (ha : g.admitsCommand a) {q : SpanPosition} (hq : a.position = some q)
    {r : NextRead} (e : a.nextRead q = some r) : g.admitsBlock r.block := by
  have whole := (h.geometry ha.1).2.2
  have own := ha.spanBlock hq whole
  unfold ActiveCommand.nextRead at e
  split at e
  · split at e <;> cases e
    exact own
  · split at e
    · next b found => cases e; exact ha.sourceBlock hq whole (List.mem_of_getElem? found)
    · rw [destRead_block e]; exact own
  · rw [destRead_block e]; exact own

theorem Inside.forwardedRead : Inside g s.forwardedRead := by
  unfold State.forwardedRead
  split
  · next a current =>
    split
    · next q hq =>
      split
      · next r hr =>
        have room := h.nextRead (h.engine a current) hq hr
        split
        · unfold State.readSpan
          split
          · split
            · exact h.raiseRead room
            · exact h.endFault _ _ _ _
          · exact h.raiseRead room
        · exact h
      · exact h
    · exact h
  · exact h

theorem Inside.uploadPop : Inside g s.uploadPop := by
  unfold State.uploadPop
  split
  · next a current =>
    have ha := h.engine a current
    split
    · next q hq =>
      split
      · unfold State.popUpload
        split
        · split
          · exact h.onEngine_current (ha.of_work (b := { a with dataTimer := some s.dataTimeout }) rfl rfl rfl) fun _ => rfl
          · exact h
        · next w rest _ =>
          refine (h.onPort_queue a.port).onEngine fun b e => ?_
          split at e <;> cases e
          · exact (ha.takeWord q w).of_work rfl rfl rfl
          · exact ha.takeWord q w
      · exact h
    · exact h
  · exact h

theorem Inside.readbackPush : Inside g s.readbackPush := by
  unfold State.readbackPush
  split
  · next a current =>
    have ha := h.engine a current
    split
    · next w b word =>
      split
      · unfold State.pushReadback
        split
        · refine (h.onPort_queue a.port).onEngine fun c e => ?_
          split at e <;> cases e
          · exact (ha.nextWord word).of_work rfl rfl rfl
          · exact ha.nextWord word
        · split
          · exact h.onEngine_current (ha.of_work (b := { a with dataTimer := some s.dataTimeout }) rfl rfl rfl) fun _ => rfl
          · exact h
      · exact h
    · exact h
  · exact h

theorem Inside.spanSkip : Inside g s.spanSkip := by
  unfold State.spanSkip
  split
  · next a current =>
    split
    · next q hq =>
      split
      · exact h.finishWriting (h.engine a current) hq 0
      · exact h
    · exact h
  · exact h

theorem Inside.markEvent : Inside g s.markEvent := by
  unfold State.markEvent
  split
  · split
    · exact h.endFault _ _ _ _
    · exact h
  · exact h

theorem Inside.commandEnd : Inside g s.commandEnd := by
  unfold State.commandEnd
  split
  · split
    · exact h.endDone _ _
    · exact h
  · exact h

theorem Inside.timeoutData : Inside g s.timeoutData := by
  unfold State.timeoutData
  split
  · split
    · exact h.endFault _ _ _ _
    · exact h
  · exact h

/-! ### The host's accesses -/

/-- An update of the engine's command that leaves its rectangle and its span. -/
theorem Inside.onCurrent {f : ActiveCommand → ActiveCommand} (hf : ∀ a, g.admitsCommand a → g.admitsCommand (f a)) :
    Inside g (s.onCurrent f) :=
  h.onEngine fun b e => by
    obtain ⟨a, current, rfl⟩ := Option.map_eq_some_iff.mp e
    exact hf a (h.engine a current)

theorem Inside.setAccessError (p : Port) (e : AccessError) : Inside g (s.setAccessError p e) :=
  h.onPort_queue p

theorem Inside.restartDataTimer (p : Port) (e : EngineState) : Inside g (s.restartDataTimer p e) := by
  unfold State.restartDataTimer
  split
  · refine h.onCurrent fun a ha => ?_
    split
    · exact ha.of_work rfl rfl rfl
    · exact ha
  · exact h

theorem Inside.pushUpload (p : Port) (w : Word) : Inside g (s.pushUpload p w) := by
  unfold State.pushUpload
  split
  · exact (h.onPort_queue p (f := fun hp => { hp with upload := hp.upload ++ [w] })).restartDataTimer p _
  · exact h.setAccessError p _

theorem Inside.popReadback (p : Port) : Inside g (s.popReadback p) := by
  unfold State.popReadback
  split
  · exact h.setAccessError p _
  · next rest _ => exact (h.onPort_queue p (f := fun hp => { hp with readback := rest })).restartDataTimer p _

theorem Inside.abort (p : Port) : Inside g (s.abort p) := by
  refine ((h.onPort p (f := fun hp => { hp with queue := [], upload := [] }) fun ne => absurd rfl ne).onCurrent
    fun a ha => ?_).post p _
  split
  · exact ha.mark
  · exact ha

theorem Inside.detach (p : Port) : Inside g (s.detach p) := by
  have waits : Inside g { s with waitList := s.waitList.erase p } := { h with }
  have left := waits.lease (onLease_frame _ p fun _ => .reset) (waits.onLease p fun w e => by cases e)
  have unmarked := left.onBuffer (f := fun b => { b with items := dropMarkers p b.items })
    (fun it m => left.items it (List.mem_of_mem_filter m)) left.engineRead
  have revoked := unmarked.lease (revokeOwned_frame _ p) (unmarked.revokeOwned p)
  have unskipped {t : State} (k : Inside g t) : Inside g { t with skips := t.skips.set p 0 } := { k with }
  have ended := (unskipped revoked).onEngine
    (f := fun e => if e.current.any (fun (a : ActiveCommand) => a.port == p) then e.ended else e) fun a e => by
      simp only [] at e
      split at e
      · cases e
      · exact (unskipped revoked).engine a e
  have reset := ended.onPort p (f := fun hp => { HostPort.reset with resetPin := hp.resetPin }) fun ne => absurd rfl ne
  unfold State.detach
  simp only []
  split
  · exact reset
  · exact reset.lease (evaluateWaitList_frame _) reset.evaluateWaitList

omit h in
theorem Inside.submit (h : Inside s s) (p : Port) (u : Submission) : Inside s (s.submit p u) := by
  unfold State.submit
  split
  · exact h.onPort_queue p
  next run =>
  have act : s.active := fun setup => by rw [setup] at run; exact run rfl
  split
  · exact h.onPort_queue p
  split
  · exact h.onPort_queue p
  · exact h.onPort p fun _ => act

end Events

/-! ### The Composer -/

section Composing

variable {g : State} {c : Composer}

theorem ComposerInside.setBuffer (h : ComposerInside g c) (y : Nat) (b : LineBuffer) : ComposerInside g (c.setBuffer y b) := by
  unfold Composer.setBuffer
  split <;> exact { h with }

/-- The fetch list of a line names block columns of the surface (R149). -/
theorem fetchListOf_column {list : List DisplayItem} {w y : Nat} {b : LineBlock} (m : b ∈ fetchListOf list w y) :
    b.column < w / 16 := by
  simp only [fetchListOf, List.mem_flatMap, List.mem_map, List.mem_filter, List.mem_range] at m
  obtain ⟨_, _, _, ⟨column, _⟩, rfl⟩ := m
  exact column

/-- The fetch of a line of the surface (R151). -/
theorem ComposerInside.beginFetch (h : ComposerInside g c) (act : g.active) {y : Nat} (hy : y < g.surfaceHeight) :
    ComposerInside g (c.beginFetch g.surfaceWidth y) := by
  refine ComposerInside.setBuffer (c := { c with fetchLine := some y, fetchList := fetchListOf c.displayList g.surfaceWidth y })
    { running := h.running, fetchLine := fun z e => ?_, fetchList := fun b m => ⟨act, fetchListOf_column m⟩ } y _
  cases e
  exact ⟨act, hy⟩

theorem ComposerInside.startFrame (h : ComposerInside g c) (act : g.active) (rows : 0 < g.surfaceHeight)
    (list : List DisplayItem) : ComposerInside g (c.startFrame g.surfaceWidth g.surfaceHeight list) := by
  unfold Composer.startFrame
  refine ComposerInside.beginFetch ?_ act rows
  exact ⟨h.running, h.fetchLine, h.fetchList⟩

theorem ComposerInside.sendLine (h : ComposerInside g c) (act : g.active) (y : Nat) (pixels : List Pixel) :
    ComposerInside g (c.sendLine g.surfaceWidth g.surfaceHeight y pixels) := by
  have sent : ComposerInside g { c with position := .visible y, sentLine := pixels } := { h with }
  have released : ComposerInside g (if y = 0 then { c with position := .visible y, sentLine := pixels }
      else Composer.releaseLine { c with position := .visible y, sentLine := pixels } (y - 1)) := by
    split
    · exact sent
    · exact { sent with }
  unfold Composer.sendLine
  simp only []
  split
  · exact released.beginFetch act ‹_›
  · exact { released with fetchLine := fun y e => by cases e }

theorem ComposerInside.dropLine (h : ComposerInside g c) (y : Nat) : ComposerInside g (c.dropLine y) :=
  { running := h.running, fetchLine := h.fetchLine, fetchList := fun b m => by cases m }

theorem ComposerInside.completeFetch (h : ComposerInside g c) (v : Block) : ComposerInside g (c.completeFetch v) := by
  have freed : ComposerInside g { c with inFlight := none } := { h with }
  unfold Composer.completeFetch
  split
  · simp only []
    split
    · exact freed
    · exact freed.setBuffer _ _
  · exact h

theorem ComposerInside.takeGrant (h : ComposerInside g c) : ComposerInside g c.takeGrant := by
  unfold Composer.takeGrant
  split
  · next y b rest line list =>
    exact { h with fetchList := fun d m => h.fetchList d (by rw [list]; exact List.mem_cons_of_mem _ m) }
  · exact h

variable {s : State} (h : Inside s s)
include h

theorem Inside.frameStart : Inside s s.frameStart := by
  unfold State.frameStart
  split
  · next due =>
    have act : s.active := h.composer.running (by
      unfold State.frameStartDue at due; exact (Bool.and_eq_true_iff.mp due).1)
    have passed := h.lease (passFrame_frame s) h.passFrame
    exact (passed.onComposer (passed.composer.startFrame act (h.geometry act).1 _)).postAll _
  · exact h

theorem Inside.lineDue : Inside s s.lineDue := by
  unfold State.lineDue
  split
  · next y next =>
    have act : s.active := h.composer.running (by unfold State.nextLine at next; split at next; assumption; cases next)
    have late := h.onComposer (f := fun c => (c.dropLine y).sendLine s.surfaceWidth s.surfaceHeight y
      (List.replicate s.surfaceWidth s.config.background)) ((h.composer.dropLine y).sendLine act y _)
    unfold State.lineDueAt
    simp only []
    split
    · exact h.onComposer (h.composer.sendLine act y _)
    · split
      · exact late
      · exact late.postAll _
  · exact h

theorem Inside.trailingBlankLine : Inside s s.trailingBlankLine := by
  unfold State.trailingBlankLine
  split
  · exact h.onComposer { h.composer with }
  · exact h

end Composing

/-! ### The channel -/

section Channel

variable {g s : State} (h : Inside g s)
include h

theorem Inside.freeChannel : Inside g s.freeChannel := { h with channel := fun a e => by cases e }

theorem Inside.writeBlock (b : BlockName) (v : Block) : Inside g (s.writeBlock b v) := { h with }

omit h in
theorem drainHead_mem {b : Buffer} {e : Entry} (head : b.drainHead = some e) : .entry e ∈ b.items :=
  mem_entries.mp (List.mem_of_find?_eq_some head)

/-- Every requester names a block inside the surface (R137). -/
theorem Inside.accessFor {q : Requester} {a : Access} (e : s.accessFor q = some a) : g.admitsBlock a.block := by
  unfold State.accessFor at e
  split at e
  · split at e
    · next y b rest line list =>
      cases e
      have column := h.composer.fetchList b (by rw [list]; exact List.mem_cons_self)
      exact ⟨column.1, (h.composer.fetchLine y line).2, column.2⟩
    · cases e
  · obtain ⟨r, read, rfl⟩ := Option.map_eq_some_iff.mp e
    exact h.engineRead r read
  · obtain ⟨entry, head, rfl⟩ := Option.map_eq_some_iff.mp e
    have room : g.admitsBlock entry.block := h.items _ (drainHead_mem head)
    unfold Entry.drainAccess
    split <;> exact room
  · obtain ⟨b, position, rfl⟩ := Option.map_eq_some_iff.mp e
    exact h.clear b position

theorem Inside.takeGrant (q : Requester) : Inside g (s.takeGrant q) := by
  have begun (e : Entry) : e.drainBegin.block = e.block := by unfold Entry.drainBegin; split <;> rfl
  have alternated (v : Alternation) : Inside g { s with alternation := v } := { h with }
  unfold State.takeGrant
  split
  · exact h.onComposer h.composer.takeGrant
  · refine (alternated .engineRead).onBuffer h.items fun r e => ?_
    obtain ⟨old, read, rfl⟩ := Option.map_eq_some_iff.mp e
    exact h.engineRead old read
  · split
    · exact (alternated .drain).onBuffer (admitsItem_changeOldest h.items _ begun) h.engineRead
    · exact h
  · exact h

omit h in
theorem inSurface_iff (s : State) (b : BlockName) : s.inSurface b = true ↔ s.holdsBlock b := by
  simp [State.inSurface, State.holdsBlock]

omit h in
/-- A grant finds its block inside the surface, so that it does not fault (R137, R139). -/
theorem Inside.grantEvent (h : Inside s s) : ∃ t, s.grantEvent = .next t ∧ Inside s t := by
  unfold State.grantEvent
  split
  · next q _ _ =>
    split
    · next a access =>
      have room := h.accessFor access
      refine ⟨{ s.takeGrant q with channel := some a }, ?_, ?_⟩
      · rw [State.startAccess, if_pos ((inSurface_iff s a.block).mpr room.2)]
      · exact { h.takeGrant q with channel := fun b e => by cases e; exact room }
    · exact ⟨s, rfl, h⟩
  · exact ⟨s, rfl, h⟩

theorem Inside.departed (e : Entry) : Inside g (s.departed e) := h.lease (departed_frame s e) (h.toTableInside.departed e)

theorem Inside.removeOldest (q : Entry → Bool) (v : BitVec 32) :
    Inside g (s.onBuffer fun b => { b with items := removeOldest q b.items, voided := v }) :=
  h.onBuffer (fun it m => h.items it (mem_removeOldest m)) h.engineRead

theorem Inside.completeUnderfill (v : Block) : Inside g (s.completeUnderfill v) := by
  unfold State.completeUnderfill
  split
  · split
    · exact (h.removeOldest _ _).departed _
    · exact h.onBuffer (admitsItem_changeOldest h.items _ fun _ => rfl) h.engineRead
  · exact h

theorem Inside.completeBlockWrite : Inside g s.completeBlockWrite := by
  unfold State.completeBlockWrite
  split
  · exact (h.removeOldest _ s.buffer.voided).departed _
  · exact h

theorem Inside.underfillCompletion : Inside g s.underfillCompletion := by
  unfold State.underfillCompletion
  split
  · exact h.freeChannel.completeUnderfill _
  · exact h

theorem Inside.blockWriteCompletion : Inside g s.blockWriteCompletion := by
  unfold State.blockWriteCompletion
  split
  · exact (h.freeChannel.writeBlock _ _).completeBlockWrite
  · exact h

theorem Inside.engineReadDelivery : Inside g s.engineReadDelivery := by
  unfold State.engineReadDelivery
  split
  · exact (h.freeChannel.onBuffer (f := fun p => { p with engineRead := none }) h.items fun r e => by cases e).deliver _
  · exact h

theorem Inside.fetchCompletion : Inside g s.fetchCompletion := by
  unfold State.fetchCompletion
  split
  · exact h.freeChannel.onComposer (h.composer.completeFetch _)
  · exact h

/-- One tick moves times alone (R57, R103). -/
theorem Inside.tick : Inside g s.tick := by
  have slots (p : Port) : (s.tick.leaseSlots.get p) = (s.leaseSlots.get p).tick := by cases p <;> rfl
  refine { h with waiting := fun p w e => ?_, engine := fun b e => ?_ }
  · rw [slots] at e
    obtain ⟨old, waiting, rfl⟩ := Option.map_eq_some_iff.mp e
    exact h.waiting p old waiting
  · obtain ⟨a, current, rfl⟩ := Option.map_eq_some_iff.mp e
    exact (h.engine a current).of_work rfl rfl rfl

/-! ### Start-up -/

/-- The entry to RUN starts the Composer and posts SURFACE_READY (R15). -/
theorem Inside.enterRun (act : g.active) : Inside g s.enterRun := by
  have entered : Inside g { s with globalState := .run, clearPosition := none } :=
    { h with clear := fun b e => by cases e }
  exact (entered.onComposer (f := fun c => { c with running := true, position := .initial })
    { h.composer with running := fun _ => act }).postAll _

/-- The clear pass moves from block to block of the surface (R14). -/
theorem Inside.nextClear {b b' : BlockName} (hb : g.admitsBlock b) (width : s.surfaceWidth = g.surfaceWidth)
    (height : s.surfaceHeight = g.surfaceHeight) (e : s.nextClear b = some b') : g.admitsBlock b' := by
  obtain ⟨act, row, column⟩ := hb
  obtain ⟨rows, columns, -⟩ := h.geometry act
  unfold State.nextClear at e
  rw [width, height] at e
  split at e
  · next right => cases e; exact ⟨act, row, right⟩
  split at e
  · next down => cases e; exact ⟨act, down, columns⟩
  split at e <;> cases e
  exact ⟨act, rows, columns⟩

end Channel

end Sys2Proof.Machine
end

section
/-! SUPPORT. That every command answers a next state from a state that meets the laws of the surface, and keeps them
(R137). -/

namespace Sys2Proof.Machine

set_option Elab.async false

/-! ### The events that keep the configuration logic -/

section Kept

variable {s : State} (h : SurfaceLaws s)
include h

theorem SurfaceLaws.event {t : State} (frame : EventFrame s t) (inside : Inside s t) : SurfaceLaws t :=
  h.of_inside frame.unwritten.toLogicFrame inside

theorem SurfaceLaws.lease {t : State} (frame : LeaseFrame s t) (table : TableInside s t) : SurfaceLaws t :=
  h.event frame.event (h.inside.lease frame table)

/-- An update of a port that keeps its command queue. -/
theorem SurfaceLaws.onPort (p : Port) {f : HostPort → HostPort}
    (hf : ∀ hp, (f hp).queue = hp.queue := by intro _; rfl) : SurfaceLaws (s.onPort p f) :=
  h.event (onPort_event s p f) (h.inside.onPort_queue p hf)

theorem SurfaceLaws.submit (p : Port) (u : Submission) : SurfaceLaws (s.submit p u) :=
  h.event (submit_event s p u) (h.inside.submit p u)

theorem SurfaceLaws.abort (p : Port) : SurfaceLaws (s.abort p) := h.event (abort_event s p) (h.inside.abort p)

theorem SurfaceLaws.detach (p : Port) : SurfaceLaws (s.detach p) := h.event (detach_event s p) (h.inside.detach p)

theorem SurfaceLaws.pushUpload (p : Port) (w : Word) : SurfaceLaws (s.pushUpload p w) :=
  h.event (pushUpload_event s p w) (h.inside.pushUpload p w)

theorem SurfaceLaws.stageCommand (p : Port) (r : Register) (w : Word) : SurfaceLaws (s.stageCommand p r w) := h.onPort p

theorem SurfaceLaws.stageLease (p : Port) (r : Register) (w : Word) : SurfaceLaws (s.stageLease p r w) := h.onPort p

theorem SurfaceLaws.writeIntEnable (p : Port) (w : Word) : SurfaceLaws (s.writeIntEnable p w) := h.onPort p

theorem SurfaceLaws.writeNoticeEnable (p : Port) (w : Word) : SurfaceLaws (s.writeNoticeEnable p w) := h.onPort p

theorem SurfaceLaws.request (p : Port) : SurfaceLaws (s.request p) :=
  h.lease (request_frame s p) (h.inside.toTableInside.request p)

theorem SurfaceLaws.release (p : Port) (n : Handle) : SurfaceLaws (s.release p n) :=
  h.lease (release_frame s p n) (h.inside.toTableInside.release p n)

theorem SurfaceLaws.setVisible (p : Port) (n : Handle) (v : Bool) : SurfaceLaws (s.setVisible p n v) :=
  h.lease (setVisible_frame s p n v) (h.inside.toTableInside.setVisible p n v)

theorem SurfaceLaws.cancel (p : Port) : SurfaceLaws (s.cancel p) :=
  h.lease (cancel_frame s p) (h.inside.toTableInside.cancel p)

theorem SurfaceLaws.leaseOp (p : Port) (o : LeaseOpWord) : SurfaceLaws (s.leaseOp p o) :=
  h.lease (leaseOp_frame s p o) (h.inside.toTableInside.leaseOp p o)

/-! ### Start-up and the clear pass -/

omit h in
/-- A state without work meets the laws with any geometry that a commit accepts, and in SETUP with any geometry. -/
theorem Quiescent.laws (q : Quiescent s) (reset : s.deviceReset = true → s.globalState = .setup)
    (geometry : s.active → 0 < s.surfaceHeight ∧ 0 < s.surfaceWidth / 16 ∧ s.surfaceWidth % 16 = 0) : SurfaceLaws s :=
  (q.inside geometry).self_laws reset

omit h in
/-- The assertion of the device reset pin leaves no work (R16). -/
theorem assertReset_laws (s : State) : SurfaceLaws s.assertReset := by
  refine Quiescent.laws ?_ (fun _ => rfl) fun act => absurd rfl act
  exact
    { table := fun i => by simp [State.slot, State.assertReset, State.reset, Slot.reset]
      leases := fun p => by cases p <;> rfl
      queues := fun p => by cases p <;> rfl
      engine := rfl, items := rfl, engineRead := rfl, channel := rfl, clear := rfl, running := rfl, fetchLine := rfl
      fetchList := rfl }

theorem sampleStraps_laws (straps : Straps) : SurfaceLaws (s.sampleStraps straps) := by
  have sampled : Inside s (s.sampleStraps straps) := { h.inside with }
  exact sampled.laws Iff.rfl rfl fun e => by cases e

/-- In SETUP a configuration write meets no work that its geometry could displace (R8, R9). -/
theorem writeConfig_laws (p : Port) (f : ConfigField) (w : Word) : SurfaceLaws (s.writeConfig p f w) := by
  unfold State.writeConfig
  split
  · next setup =>
    refine Quiescent.laws ?_ (fun _ => setup) fun act => absurd setup act
    exact { h.setup setup with }
  · exact h.onPort p

omit h in
/-- A surface that a commit accepts has rows and whole blocks (R10). -/
theorem validate_geometry {c : ConfigBlock} {size : MemorySize} (e : validate c size = .ok) :
    0 < c.height.toNat ∧ 0 < c.width.toNat / 16 ∧ c.width.toNat % 16 = 0 := by
  unfold validate at e
  split at e
  · cases e
  split at e
  · cases e
  omega

/-- A commit that is taken leaves SETUP without work, with a geometry that it has checked (R10 to R15). -/
theorem takeCommit_laws (p : Port) (released : s.deviceReset = false) : SurfaceLaws (s.takeCommit p) := by
  have device {t : State} (e : t.deviceReset = s.deviceReset) (r : t.deviceReset = true) : t.globalState = .setup := by
    rw [e, released] at r; cases r
  unfold State.takeCommit
  split
  · next setup =>
    have q := h.setup setup
    split
    · next valid =>
      have geometry := validate_geometry valid
      simp only []
      split
      · refine Inside.self_laws ?_ (device rfl)
        have committed : Inside { s with commitResult := .ok, globalState := .clearing, clearPosition := some ⟨0, 0, 0⟩ } s :=
          q.inside fun _ => geometry
        refine { committed with clear := fun b e => ?_ }
        cases e
        exact ⟨(fun clearing => by cases clearing), geometry.1, geometry.2.1⟩
      · refine Inside.self_laws ?_ (device rfl)
        have committed : Inside (State.enterRun { s with commitResult := .ok }) s := q.inside fun _ => geometry
        exact Inside.enterRun (s := { s with commitResult := .ok }) { committed with } fun e => by cases e
    · next code _ =>
      have answered : Inside s { s with commitResult := validate s.config s.memorySize } := { h.inside with }
      exact (answered.post p _).laws Iff.rfl rfl (device rfl)
  · exact h.onPort p

/-- The completion of a clear write: the pass goes on inside the surface, or the part enters RUN (R14). -/
theorem clearWriteCompletion_laws (released : s.deviceReset = false) : SurfaceLaws s.clearWriteCompletion := by
  unfold State.clearWriteCompletion
  split
  · next v b busy =>
    have room := h.inside.channel _ busy
    have written := (h.inside.freeChannel).writeBlock b v
    unfold State.advanceClear
    split
    · next b' position =>
      refine h.of_inside (by constructor <;> rfl) ?_
      exact { written with clear := fun d e => by cases e; exact written.nextClear room rfl rfl position }
    · refine (written.enterRun room.1).laws (iff_of_true (fun run => by cases run) room.1) rfl fun e => ?_
      have held : s.deviceReset = true := e
      rw [released] at held
      cases held
  · exact h

/-! ### Register writes -/

theorem writeControl_laws (p : Port) (w : Word) : SurfaceLaws (s.writeControl p w) := by
  unfold State.writeControl
  split
  · exact h.detach p
  split
  · exact h.abort p
  · exact h

/-- A word written to any register keeps the laws (R162, R188). -/
theorem writeRegister_laws (p : Port) (released : s.deviceReset = false) (r : Register) (w : Word) :
    SurfaceLaws (s.writeRegister p r w) := by
  cases r with
  | cmdHandle | cmdRegionXY | cmdRegionWH | cmdRopMask | cmdColour | cmdFgBg | cmdPattern0 | cmdPattern1 | cmdOrigin
  | cmdSrcHandle | cmdSrcXY | cmdSrcKey => exact h.stageCommand p _ w
  | leaseLayerRights | leaseRegionXY | leaseRegionWH | leaseVisKey | leaseFlags => exact h.stageLease p _ w
  | submit => exact h.submit p _
  | leaseOp => exact h.leaseOp p _
  | uploadPush => exact h.pushUpload p w
  | control => exact writeControl_laws h p w
  | intEnable => exact h.writeIntEnable p w
  | noticeEnable => exact h.writeNoticeEnable p w
  | config f => exact writeConfig_laws h p f w
  | commit => exact takeCommit_laws h p released
  | submitResult | leaseResult | leaseHandle | readbackPop | noticeWord0 | noticeWord1 | portStatus | fifoStatus
  | accessError | lossCount | portInfo | pixelsWritten | pixelsKeyed | commandsDone | commandsFaulted | merges
  | fullForwards | underfills | voided | underruns | frames | commitResult | globalState => exact h

theorem writeOffset_laws (p : Port) (released : s.deviceReset = false) (offset : BitVec 8) (w : Word) :
    SurfaceLaws (s.writeOffset p offset w) := by
  unfold State.writeOffset
  split
  · exact writeRegister_laws h p released _ w
  · exact h.onPort p

/-! ### Every command -/

theorem SurfaceLaws.write {p : Port} {f : State → State} (hf : s.ignoresAccess p = false → SurfaceLaws (f s)) :
    ∃ t, Host.Outcome.next (φ := Fault) (ρ := Refusal) (writeAccess s p f) = .next t ∧ SurfaceLaws t :=
  ⟨_, rfl, writeAccess_of h hf⟩

theorem SurfaceLaws.read {p : Port} {w : Word} {f : State → State} (hf : SurfaceLaws (f s)) :
    ∃ t, Host.Outcome.next (φ := Fault) (ρ := Refusal) (readAccess s p w f) = .next t ∧ SurfaceLaws t :=
  ⟨_, rfl, readAccess_of h (fun _ => hf) fun _ _ k => k.onPort p⟩

theorem SurfaceLaws.own {f : State → State} (hf : s.deviceReset = false → SurfaceLaws (f s)) :
    ∃ t, Host.Outcome.next (φ := Fault) (ρ := Refusal) (ownEvent s f) = .next t ∧ SurfaceLaws t :=
  ⟨_, rfl, ownEvent_of h hf⟩

/-- Every command answers a next state, in which everything is in its place (R137). -/
theorem exec_keeps_surfaceLaws (c : Instr) : ∃ t, exec c s = .next t ∧ SurfaceLaws t := by
  have inside := h.inside
  cases c with
  | deviceReset => exact ⟨_, rfl, assertReset_laws s⟩
  | deviceResetEnd straps =>
    refine ⟨_, rfl, ?_⟩
    split
    · exact sampleStraps_laws h straps
    · exact h
  | portReset p level =>
    simp only [exec, execPortReset]
    split
    · exact ⟨_, rfl, h⟩
    · cases level with
      | asserted => exact ⟨_, rfl, (ownEvent_of h fun _ => h.detach p : SurfaceLaws (ownEvent s fun t => t.detach p)).onPort p⟩
      | released => exact ⟨_, rfl, h.onPort p⟩
  | configWrite p f w => exact h.write fun _ => writeConfig_laws h p f w
  | commit p w => exact h.write fun taken => takeCommit_laws h p (deviceReset_of_taken taken)
  | fill p tag notify => exact h.write fun _ => h.submit p _
  | pattern p tag notify => exact h.write fun _ => h.submit p _
  | copy p tag notify => exact h.write fun _ => h.submit p _
  | upload p tag notify => exact h.write fun _ => h.submit p _
  | readback p tag notify => exact h.write fun _ => h.submit p _
  | fence p token => exact h.write fun _ => h.submit p _
  | badKind p kind => cases kind <;> exact h.write fun _ => h.submit p _
  | request p => exact h.write fun _ => h.request p
  | release p n => exact h.write fun _ => h.release p n
  | setVisible p n v => exact h.write fun _ => h.setVisible p n v
  | cancel p => exact h.write fun _ => h.cancel p
  | uploadPush p w => exact h.write fun _ => h.pushUpload p w
  | readbackPop p => exact h.read (h.event (popReadback_event s p) (inside.popReadback p))
  | noticeWord1 p => exact h.read (h.onPort p)
  | accessError p => exact h.read (h.onPort p)
  | lossCount p => exact h.read (h.onPort p)
  | abort p => exact h.write fun _ => h.abort p
  | detach p abortToo => cases abortToo <;> exact h.write fun _ => h.detach p
  | intEnable p w => exact h.write fun _ => h.onPort p
  | noticeEnable p w => exact h.write fun _ => h.onPort p
  | registerWrite p offset w => exact h.write fun taken => writeOffset_laws h p (deviceReset_of_taken taken) offset w
  | badOffset p access =>
    cases access with
    | narrowRead offset => exact h.read (h.onPort p)
    | narrowWrite offset => exact h.write fun _ => h.onPort p
    | unmappedRead offset =>
      simp only [exec, execBadOffset]
      split
      · exact ⟨_, rfl, h⟩
      · exact h.read (h.onPort p)
    | unmappedWrite offset =>
      simp only [exec, execBadOffset]
      split
      · exact ⟨_, rfl, h⟩
      · exact h.write fun _ => h.onPort p
  | leaseTimeout p => exact h.own fun _ => h.lease (timeoutLease_frame s p) (inside.timeoutLease p)
  | dataTimeout => exact h.own fun _ => h.event (timeoutData_event s) inside.timeoutData
  | frameStart => exact h.own fun _ => h.of_inside (frameStart_unwritten s).toLogicFrame inside.frameStart
  | lineDue => exact h.own fun _ => h.of_inside (lineDue_unwritten s).toLogicFrame inside.lineDue
  | grantEvent =>
    simp only [exec, execGrantEvent]
    split
    · exact ⟨_, rfl, h⟩
    · obtain ⟨t, granted, room⟩ := inside.grantEvent
      exact ⟨t, granted, h.of_inside (grantEvent_unwritten granted).toLogicFrame room⟩
  | underfillCompletion =>
    exact h.own fun _ => h.of_inside (underfillCompletion_unwritten s).toLogicFrame inside.underfillCompletion
  | blockWriteCompletion => exact h.own fun _ => h.of_inside (blockWriteCompletion_logic s) inside.blockWriteCompletion
  | engineReadDelivery =>
    exact h.own fun _ => h.of_inside (engineReadDelivery_unwritten s).toLogicFrame inside.engineReadDelivery
  | fetchCompletion => exact h.own fun _ => h.of_inside (fetchCompletion_unwritten s).toLogicFrame inside.fetchCompletion
  | clearWriteCompletion => exact h.own fun running => clearWriteCompletion_laws h running
  | choiceEvent => exact h.own fun _ => h.event (choiceEvent_event s) inside.choiceEvent
  | fenceTake p => exact h.own fun _ => h.event (fenceTake_event s p) (inside.fenceTake p)
  | spanPost => exact h.own fun _ => h.event (spanPost_event s) inside.spanPost
  | forwardedRead => exact h.own fun _ => h.event (forwardedRead_event s) inside.forwardedRead
  | uploadPop => exact h.own fun _ => h.event (uploadPop_event s) inside.uploadPop
  | readbackPush => exact h.own fun _ => h.event (readbackPush_event s) inside.readbackPush
  | spanSkip => exact h.own fun _ => h.event (spanSkip_event s) inside.spanSkip
  | markEvent => exact h.own fun _ => h.event (markEvent_event s) inside.markEvent
  | commandEnd => exact h.own fun _ => h.event (commandEnd_event s) inside.commandEnd
  | trailingBlankLine =>
    exact h.own fun _ => h.of_inside (trailingBlankLine_unwritten s).toLogicFrame inside.trailingBlankLine

end Kept

/-- Settles O59: the front command of the queue, or the tick, keeps every part in its place on the surface, and a grant, the
one command that could fault, finds its block there. -/
theorem noStepFaults : Obligations.NoStepFaults := by
  intro s h
  unfold step
  split
  · next c rest _ =>
    have taken : Inside s { s with pending := rest } := { h.inside with }
    exact exec_keeps_surfaceLaws (taken.laws Iff.rfl rfl h.reset) c
  · exact ⟨_, rfl, h.inside.tick.laws Iff.rfl rfl h.reset⟩

end Sys2Proof.Machine
end

section
/-! SUPPORT. Which commands reach the configuration logic and surface memory, and how the global state moves (R4, R6, R9, R14,
R17, R124, R135). -/

namespace Sys2Proof.Machine

set_option Elab.async false

open Sys2Proof.Claims

/-! ### Register writes that no other command's row names (R162, R188) -/

theorem stageCommand_event (s : State) (p : Port) (r : Register) (w : Word) : EventFrame s (s.stageCommand p r w) :=
  onPort_event s p _

theorem stageLease_event (s : State) (p : Port) (r : Register) (w : Word) : EventFrame s (s.stageLease p r w) :=
  onPort_event s p _

/-- A write to a register that has no command row of its own stages a field, or changes nothing. -/
theorem writeRegister_event {s : State} {p : Port} {r : Register} {w : Word} (plain : writeHasOwnRow r w = false) :
    EventFrame s (s.writeRegister p r w) := by
  cases r with
  | cmdHandle | cmdRegionXY | cmdRegionWH | cmdRopMask | cmdColour | cmdFgBg | cmdPattern0 | cmdPattern1 | cmdOrigin
  | cmdSrcHandle | cmdSrcXY | cmdSrcKey => exact stageCommand_event s p _ w
  | leaseLayerRights | leaseRegionXY | leaseRegionWH | leaseVisKey | leaseFlags => exact stageLease_event s p _ w
  | control =>
    obtain ⟨abort, detach⟩ := Bool.or_eq_false_iff.mp plain
    simp only [State.writeRegister, State.writeControl, abort, detach, Bool.false_eq_true, if_false]
    exact .refl s
  | submit | leaseOp | uploadPush | intEnable | noticeEnable | config | commit => cases plain
  | submitResult | leaseResult | leaseHandle | readbackPop | noticeWord0 | noticeWord1 | portStatus | fifoStatus
  | accessError | lossCount | portInfo | pixelsWritten | pixelsKeyed | commandsDone | commandsFaulted | merges
  | fullForwards | underfills | voided | underruns | frames | commitResult | globalState => exact .refl s

theorem writeOffset_event {s : State} {p : Port} {offset : BitVec 8} {w : Word} (plain : plainRegisterWrite offset w = true) :
    EventFrame s (s.writeOffset p offset w) := by
  cases mapped : registerAt offset with
  | none => simp [plainRegisterWrite, mapped] at plain
  | some r =>
    have own : writeHasOwnRow r w = false := by simpa [plainRegisterWrite, mapped] using plain
    simpa [State.writeOffset, mapped] using writeRegister_event own

/-! ### Surface memory -/

theorem writeConfig_memory (s : State) (p : Port) (f : ConfigField) (w : Word) : (s.writeConfig p f w).memory = s.memory := by
  unfold State.writeConfig
  split <;> rfl

theorem takeCommit_memory (s : State) (p : Port) : (s.takeCommit p).memory = s.memory := by
  unfold State.takeCommit
  split
  · split
    · simp only []
      split <;> rfl
    · rfl
  · rfl

theorem writeControl_event (s : State) (p : Port) (w : Word) : EventFrame s (s.writeControl p w) := by
  unfold State.writeControl
  split
  · exact detach_event s p
  split
  · exact abort_event s p
  · exact .refl s

/-- No word written to a register reaches surface memory, also where the write is another command's row. -/
theorem writeRegister_memory (s : State) (p : Port) (r : Register) (w : Word) :
    (s.writeRegister p r w).memory = s.memory := by
  cases plain : writeHasOwnRow r w with
  | false => exact (writeRegister_event plain).memory
  | true =>
    cases r with
    | submit => exact (submit_event s p _).memory
    | leaseOp => exact (leaseOp_frame s p _).memory
    | uploadPush => exact (pushUpload_event s p w).memory
    | control => exact (writeControl_event s p w).memory
    | intEnable | noticeEnable => rfl
    | config f => exact writeConfig_memory s p f w
    | commit => exact takeCommit_memory s p
    | _ => cases plain

theorem writeOffset_memory (s : State) (p : Port) (offset : BitVec 8) (w : Word) :
    (s.writeOffset p offset w).memory = s.memory := by
  unfold State.writeOffset
  split
  · exact writeRegister_memory s p _ w
  · rfl

/-! ### The commands that keep the configuration logic -/

/-- The commands that can change the configuration logic, the sampled straps or surface memory, and the raw register write,
which can be any of them where it is ill formed. -/
def touchesLogic : Instr → Bool
  | .deviceReset | .deviceResetEnd _ | .configWrite _ _ _ | .commit _ _ | .registerWrite _ _ _ | .blockWriteCompletion
  | .clearWriteCompletion => true
  | _ => false

section Accesses

variable {s t : State} {p : Port} {f : State → State}

theorem writeAccess_unwritten (h : Host.Outcome.next (φ := Fault) (ρ := Refusal) (writeAccess s p f) = .next t)
    (hf : EventFrame s (f s)) : UnwrittenFrame s t := by
  cases h
  exact writeAccess_of (P := UnwrittenFrame s) (.refl s) fun _ => hf.unwritten

theorem readAccess_unwritten {w : Word}
    (h : Host.Outcome.next (φ := Fault) (ρ := Refusal) (readAccess s p w f) = .next t) (hf : EventFrame s (f s)) :
    UnwrittenFrame s t := by
  cases h
  exact readAccess_of (P := UnwrittenFrame s) (.refl s) (fun _ => hf.unwritten) fun _ _ k =>
    k.trans (onPort_event _ _ _).unwritten

theorem ownEvent_unwritten (h : Host.Outcome.next (φ := Fault) (ρ := Refusal) (ownEvent s f) = .next t)
    (hf : UnwrittenFrame s (f s)) : UnwrittenFrame s t := by
  cases h
  exact ownEvent_of (P := UnwrittenFrame s) (.refl s) fun _ => hf

end Accesses

theorem portReset_unwritten {s t : State} {p : Port} {level : PinLevel} (h : execPortReset p level s = .next t) :
    UnwrittenFrame s t := by
  unfold execPortReset at h
  split at h
  · cases h; exact .refl s
  · cases level with
    | released => cases h; exact (onPort_event s p _).unwritten
    | asserted =>
      cases h
      exact (ownEvent_of (P := UnwrittenFrame s) (.refl s) fun _ => (detach_event s p).unwritten).trans
        (onPort_event _ p _).unwritten

theorem badOffset_unwritten {s t : State} {p : Port} {access : BadAccess} (h : execBadOffset p access s = .next t) :
    UnwrittenFrame s t := by
  cases access with
  | narrowRead offset => exact readAccess_unwritten h (onPort_event s p _)
  | narrowWrite offset => exact writeAccess_unwritten h (onPort_event s p _)
  | unmappedRead offset =>
    unfold execBadOffset at h
    simp only [] at h
    split at h
    · cases h; exact .refl s
    · exact readAccess_unwritten h (onPort_event s p _)
  | unmappedWrite offset =>
    unfold execBadOffset at h
    simp only [] at h
    split at h
    · cases h; exact .refl s
    · exact writeAccess_unwritten h (onPort_event s p _)

theorem execGrantEvent_unwritten {s t : State} (h : execGrantEvent s = .next t) : UnwrittenFrame s t := by
  unfold execGrantEvent at h
  split at h
  · cases h; exact .refl s
  · exact grantEvent_unwritten h

/-- The end of a device reset samples the straps and no more (R4). -/
theorem deviceResetEnd_keeps {s t : State} {straps : Straps} (h : execDeviceResetEnd straps s = .next t) :
    t.globalState = s.globalState ∧ t.config = s.config ∧ t.commitResult = s.commitResult ∧ t.memory = s.memory := by
  unfold execDeviceResetEnd at h
  split at h <;> cases h <;> exact ⟨rfl, rfl, rfl, rfl⟩

/-- Every other command leaves the configuration logic, the straps and surface memory (R9, R17, R135). -/
theorem exec_unwritten {c : Instr} {s t : State} (other : touchesLogic c = false) (h : exec c s = .next t) :
    UnwrittenFrame s t := by
  cases c with
  | deviceReset | deviceResetEnd | configWrite | commit | registerWrite | blockWriteCompletion | clearWriteCompletion =>
    cases other
  | portReset p level => exact portReset_unwritten h
  | fill p tag notify => exact writeAccess_unwritten h (submit_event s p _)
  | pattern p tag notify => exact writeAccess_unwritten h (submit_event s p _)
  | copy p tag notify => exact writeAccess_unwritten h (submit_event s p _)
  | upload p tag notify => exact writeAccess_unwritten h (submit_event s p _)
  | readback p tag notify => exact writeAccess_unwritten h (submit_event s p _)
  | fence p token => exact writeAccess_unwritten h (submit_event s p _)
  | badKind p kind => cases kind <;> exact writeAccess_unwritten h (submit_event s p _)
  | request p => exact writeAccess_unwritten h (request_frame s p).event
  | release p n => exact writeAccess_unwritten h (release_frame s p n).event
  | setVisible p n v => exact writeAccess_unwritten h (setVisible_frame s p n v).event
  | cancel p => exact writeAccess_unwritten h (cancel_frame s p).event
  | uploadPush p w => exact writeAccess_unwritten h (pushUpload_event s p w)
  | readbackPop p => exact readAccess_unwritten h (popReadback_event s p)
  | noticeWord1 p => exact readAccess_unwritten h (onPort_event s p _)
  | accessError p => exact readAccess_unwritten h (onPort_event s p _)
  | lossCount p => exact readAccess_unwritten h (onPort_event s p _)
  | abort p => exact writeAccess_unwritten h (abort_event s p)
  | detach p abortToo => cases abortToo <;> exact writeAccess_unwritten h (detach_event s p)
  | intEnable p w => exact writeAccess_unwritten h (onPort_event s p _)
  | noticeEnable p w => exact writeAccess_unwritten h (onPort_event s p _)
  | badOffset p access => exact badOffset_unwritten h
  | leaseTimeout p => exact ownEvent_unwritten h (timeoutLease_frame s p).event.unwritten
  | dataTimeout => exact ownEvent_unwritten h (timeoutData_event s).unwritten
  | frameStart => exact ownEvent_unwritten h (frameStart_unwritten s)
  | lineDue => exact ownEvent_unwritten h (lineDue_unwritten s)
  | grantEvent => exact execGrantEvent_unwritten h
  | underfillCompletion => exact ownEvent_unwritten h (underfillCompletion_unwritten s)
  | engineReadDelivery => exact ownEvent_unwritten h (engineReadDelivery_unwritten s)
  | fetchCompletion => exact ownEvent_unwritten h (fetchCompletion_unwritten s)
  | choiceEvent => exact ownEvent_unwritten h (choiceEvent_event s).unwritten
  | fenceTake p => exact ownEvent_unwritten h (fenceTake_event s p).unwritten
  | spanPost => exact ownEvent_unwritten h (spanPost_event s).unwritten
  | forwardedRead => exact ownEvent_unwritten h (forwardedRead_event s).unwritten
  | uploadPop => exact ownEvent_unwritten h (uploadPop_event s).unwritten
  | readbackPush => exact ownEvent_unwritten h (readbackPush_event s).unwritten
  | spanSkip => exact ownEvent_unwritten h (spanSkip_event s).unwritten
  | markEvent => exact ownEvent_unwritten h (markEvent_event s).unwritten
  | commandEnd => exact ownEvent_unwritten h (commandEnd_event s).unwritten
  | trailingBlankLine => exact ownEvent_unwritten h (trailingBlankLine_unwritten s)

/-- A well-formed register write leaves them too. -/
theorem registerWrite_unwritten {s t : State} {p : Port} {offset : BitVec 8} {w : Word}
    (wf : WellFormed (.registerWrite p offset w) = true) (h : exec (.registerWrite p offset w) s = .next t) :
    UnwrittenFrame s t := writeAccess_unwritten h (writeOffset_event wf)

/-! ### The obligations -/

/-- Settles O4: of the commands that reach the configuration logic, those that store nothing keep surface memory as it is. -/
theorem memoryChangesOnlyAtBlockWrites : Obligations.MemoryChangesOnlyAtBlockWrites := by
  intro c s t stores h x
  suffices memory : t.memory = s.memory by rw [memory]
  have write {p : Port} {f : State → State} (h : .next (writeAccess s p f) = (.next t : Host.Outcome State Fault Refusal))
      (hf : (f s).memory = s.memory) : t.memory = s.memory := by
    cases h
    exact writeAccess_of (P := fun u => u.memory = s.memory) rfl fun _ => hf
  cases other : touchesLogic c with
  | false => exact (exec_unwritten other h).memory
  | true =>
    cases c with
    | deviceReset | blockWriteCompletion | clearWriteCompletion => exact absurd trivial stores
    | deviceResetEnd straps => exact (deviceResetEnd_keeps h).2.2.2
    | configWrite p f w => exact write h (writeConfig_memory s p f w)
    | commit p w => exact write h (takeCommit_memory s p)
    | registerWrite p offset w => exact write h (writeOffset_memory s p offset w)
    | _ => cases other

/-! ### The configuration, the straps and the global state -/

theorem writeConfig_keeps (s : State) (p : Port) (f : ConfigField) (w : Word) :
    (s.writeConfig p f w).globalState = s.globalState ∧ (s.writeConfig p f w).commitResult = s.commitResult ∧
      (s.writeConfig p f w).memorySize = s.memorySize ∧ (s.writeConfig p f w).precedence = s.precedence := by
  unfold State.writeConfig
  split <;> exact ⟨rfl, rfl, rfl, rfl⟩

theorem takeCommit_keeps (s : State) (p : Port) :
    (s.takeCommit p).config = s.config ∧ (s.takeCommit p).memorySize = s.memorySize ∧
      (s.takeCommit p).precedence = s.precedence := by
  unfold State.takeCommit
  split
  · split
    · simp only []
      split <;> exact ⟨rfl, rfl, rfl⟩
    · exact ⟨rfl, rfl, rfl⟩
  · exact ⟨rfl, rfl, rfl⟩

theorem clearWriteCompletion_keeps (s : State) :
    s.clearWriteCompletion.config = s.config ∧ s.clearWriteCompletion.commitResult = s.commitResult ∧
      s.clearWriteCompletion.memorySize = s.memorySize ∧ s.clearWriteCompletion.precedence = s.precedence := by
  unfold State.clearWriteCompletion
  split
  · unfold State.advanceClear
    split <;> exact ⟨rfl, rfl, rfl, rfl⟩
  · exact ⟨rfl, rfl, rfl, rfl⟩

theorem configurationAndStrapsHeld : Claims.ConfigurationAndStrapsHeld := by
  intro c s t wf h
  have kept (frame : LogicFrame s t) : ((∀ p f w, c ≠ .configWrite p f w) → c ≠ .deviceReset → t.config = s.config) ∧
      ((∀ p w, c ≠ .commit p w) → c ≠ .deviceReset → t.commitResult = s.commitResult) ∧
      ((∀ straps, c ≠ .deviceResetEnd straps) → t.memorySize = s.memorySize ∧ t.precedence = s.precedence) :=
    ⟨fun _ _ => frame.config, fun _ _ => frame.commitResult, fun _ => ⟨frame.memorySize, frame.precedence⟩⟩
  cases other : touchesLogic c with
  | false => exact kept (exec_unwritten other h).toLogicFrame
  | true =>
    cases c with
    | deviceReset =>
      cases h
      exact ⟨fun _ ne => absurd rfl ne, fun _ ne => absurd rfl ne, fun _ => ⟨rfl, rfl⟩⟩
    | deviceResetEnd straps =>
      obtain ⟨-, config, result, -⟩ := deviceResetEnd_keeps h
      exact ⟨fun _ _ => config, fun _ _ => result, fun ne => absurd rfl (ne straps)⟩
    | configWrite p f w =>
      cases h
      have key : _ ∧ _ ∧ _ := writeAccess_of (P := fun t => t.commitResult = s.commitResult ∧ t.memorySize = s.memorySize ∧
        t.precedence = s.precedence) (p := p) (f := fun t => t.writeConfig p f w) ⟨rfl, rfl, rfl⟩
        fun _ => (writeConfig_keeps s p f w).2
      exact ⟨fun ne => absurd rfl (ne p f w), fun _ _ => key.1, fun _ => key.2⟩
    | commit p w =>
      cases h
      have key : _ ∧ _ ∧ _ := writeAccess_of (P := fun t => t.config = s.config ∧ t.memorySize = s.memorySize ∧
        t.precedence = s.precedence) (p := p) (f := fun t => t.takeCommit p) ⟨rfl, rfl, rfl⟩ fun _ => takeCommit_keeps s p
      exact ⟨fun _ _ => key.1, fun ne => absurd rfl (ne p w), fun _ => key.2⟩
    | registerWrite p offset w => exact kept (registerWrite_unwritten wf h).toLogicFrame
    | blockWriteCompletion =>
      cases h
      exact kept (ownEvent_of (P := LogicFrame s) (.refl s) fun _ => blockWriteCompletion_logic s)
    | clearWriteCompletion =>
      cases h
      have key : _ ∧ _ ∧ _ ∧ _ := ownEvent_of (P := fun t => t.config = s.config ∧ t.commitResult = s.commitResult ∧
        t.memorySize = s.memorySize ∧ t.precedence = s.precedence) ⟨rfl, rfl, rfl, rfl⟩
        fun _ => clearWriteCompletion_keeps s
      exact ⟨fun _ _ => key.1, fun _ _ => key.2.1, fun _ => key.2.2⟩
    | _ => cases other

/-! ### A commit (R10 to R15) -/

theorem quotas_bad_eq (q : PerPort (BitVec 6)) :
    (quotaBad q.p0 || quotaBad q.p1 || quotaBad q.p2 || quotaBad q.p3 || decide (32 < quotaSum q)) =
      ((Port.all.map fun p => (q.get p).toNat).any (fun n => n == 0 || decide (32 < n)) ||
        decide (32 < (Port.all.map fun p => (q.get p).toNat).sum)) := by
  simp [quotaBad, quotaSum, Port.all, PerPort.get, Nat.add_assoc, Bool.or_assoc, Bool.beq_eq_decide_eq]

/-- The model's checks of a commit answer the code of the first failing check of R10, OK where none fails. -/
theorem validate_eq (c : ConfigBlock) (size : MemorySize) :
    validate c size = (firstFailure (commitChecks c size.bytes)).getD .ok := by
  have zero {n : Nat} (v : BitVec n) : v = 0 ↔ v.toNat = 0 := by simp [← BitVec.toNat_inj]
  simp only [validate, commitChecks, firstFailure, quotas_bad_eq, decide_eq_true_eq, zero, Nat.dvd_iff_mod_eq_zero,
    apply_ite (Option.getD · CommitResult.ok), Option.getD_some, Option.getD_none, ne_eq]

theorem firstFailure_mem {α : Type} {checks : List (Bool × α)} {code : α} (h : firstFailure checks = some code) :
    (true, code) ∈ checks := by
  induction checks with
  | nil => cases h
  | cons check rest ih =>
    obtain ⟨fails, c⟩ := check
    cases fails with
    | true => cases h; exact List.mem_cons_self
    | false => exact List.mem_cons_of_mem _ (ih h)

/-- No check of R10 fails with OK. -/
theorem commitChecks_code_ne_ok {c : ConfigBlock} {bytes : Nat} {code : CommitResult}
    (h : firstFailure (commitChecks c bytes) = some code) : code ≠ .ok := by
  have mem := firstFailure_mem h
  rintro rfl
  simp [commitChecks] at mem

section Commit

variable {s : State} {p : Port}

theorem takeCommit_locked (h : s.globalState ≠ .setup) : s.takeCommit p = s.setAccessError p .locked := if_neg h

theorem takeCommit_rejected (h : s.globalState = .setup) {code : CommitResult}
    (failed : firstFailure (commitChecks s.config s.memorySize.bytes) = some code) :
    s.takeCommit p = State.post { s with commitResult := code } p (.configRejected code) := by
  have result : validate s.config s.memorySize = code := by rw [validate_eq, failed]; rfl
  have ne := commitChecks_code_ne_ok failed
  unfold State.takeCommit
  rw [if_pos h]
  split
  · next ok => exact absurd (result.symm.trans ok) ne
  · rw [result]

theorem takeCommit_accepted (h : s.globalState = .setup)
    (passed : firstFailure (commitChecks s.config s.memorySize.bytes) = none) :
    s.takeCommit p = if s.config.clearOnCommit then
        { s with commitResult := .ok, globalState := .clearing, clearPosition := some ⟨0, 0, 0⟩ }
      else State.enterRun { s with commitResult := .ok } := by
  have result : validate s.config s.memorySize = .ok := by rw [validate_eq, passed]; rfl
  unfold State.takeCommit
  rw [if_pos h, result]

/-- A commit moves the global state where every check passes, and there to CLEARING or RUN (R13). -/
theorem takeCommit_globalState (moved : (s.takeCommit p).globalState ≠ s.globalState) :
    s.globalState = .setup ∧ firstFailure (commitChecks s.config s.memorySize.bytes) = none ∧
      (s.takeCommit p).globalState = if s.config.clearOnCommit then .clearing else .run := by
  by_cases setup : s.globalState = .setup
  · cases e : firstFailure (commitChecks s.config s.memorySize.bytes) with
    | some code => rw [takeCommit_rejected setup e] at moved; exact absurd rfl moved
    | none =>
      refine ⟨setup, rfl, ?_⟩
      rw [takeCommit_accepted setup e]
      split <;> rfl
  · rw [takeCommit_locked setup] at moved; exact absurd rfl moved

end Commit

/-! ### The clear pass (R14) -/

section Clear

variable {s : State} {b : BlockName}

theorem nextClear_column (h : b.column + 1 < s.surfaceWidth / 16) :
    s.nextClear b = some ⟨b.layer, b.row, b.column + 1⟩ := if_pos h

theorem nextClear_row (column : s.surfaceWidth / 16 ≤ b.column + 1) (h : b.row + 1 < s.surfaceHeight) :
    s.nextClear b = some ⟨b.layer, b.row + 1, 0⟩ := by
  simp [State.nextClear, Nat.not_lt.mpr column, h]

theorem nextClear_layer (column : s.surfaceWidth / 16 ≤ b.column + 1) (row : s.surfaceHeight ≤ b.row + 1)
    (h : b.layer.val + 1 < 4) : s.nextClear b = some ⟨⟨b.layer.val + 1, h⟩, 0, 0⟩ := by
  simp [State.nextClear, Nat.not_lt.mpr column, Nat.not_lt.mpr row, h]

/-- The pass is over after the last block of the last row of L3 (R14). -/
theorem nextClear_eq_none_iff :
    s.nextClear b = none ↔ b.layer = 3 ∧ s.surfaceHeight ≤ b.row + 1 ∧ s.surfaceWidth / 16 ≤ b.column + 1 := by
  have top : b.layer = 3 ↔ ¬ b.layer.val + 1 < 4 := by rw [Fin.ext_iff]; show b.layer.val = 3 ↔ _; omega
  rw [top]
  unfold State.nextClear
  split
  · simp; omega
  split
  · simp; omega
  split
  · simp; omega
  · simp; omega

/-- The completion of a clear write frees the channel and stores its block before the pass goes on (R14, R136). -/
theorem clearWriteCompletion_of_busy {v : Block} (busy : s.channel = some ⟨.blockWrite v, b, .clear⟩) :
    s.clearWriteCompletion = (s.freeChannel.writeBlock b v).advanceClear b := by
  simp [State.clearWriteCompletion, busy]

theorem advanceClear_next {b' : BlockName} (h : s.nextClear b = some b') :
    s.advanceClear b = { s with clearPosition := some b' } := by simp [State.advanceClear, h]

theorem advanceClear_last (h : s.nextClear b = none) : s.advanceClear b = s.enterRun := by simp [State.advanceClear, h]

/-- The completion of a clear write moves the global state after the last block alone, and there to RUN (R15). -/
theorem clearWriteCompletion_globalState (moved : s.clearWriteCompletion.globalState ≠ s.globalState) :
    s.clearWriteCompletion.globalState = .run ∧ ∃ v b, s.channel = some ⟨.blockWrite v, b, .clear⟩ ∧ b.layer = 3 ∧
      s.surfaceHeight ≤ b.row + 1 ∧ s.surfaceWidth / 16 ≤ b.column + 1 := by
  unfold State.clearWriteCompletion at moved ⊢
  split at moved
  · next v b busy =>
    cases e : (s.freeChannel.writeBlock b v).nextClear b with
    | some b' => rw [advanceClear_next e] at moved; exact absurd rfl moved
    | none => exact ⟨by rw [advanceClear_last e]; rfl, v, b, busy, nextClear_eq_none_iff.mp e⟩
  · exact absurd rfl moved

end Clear

theorem globalStateTransitions : Claims.GlobalStateTransitions := by
  intro c s t wf h moved
  cases other : touchesLogic c with
  | false => exact absurd (exec_unwritten other h).globalState moved
  | true =>
    cases c with
    | deviceReset => cases h; exact .inl ⟨rfl, rfl⟩
    | deviceResetEnd straps => exact absurd (deviceResetEnd_keeps h).1 moved
    | configWrite p f w =>
      cases h
      rcases writeAccess_cases s p fun t => t.writeConfig p f w with e | ⟨-, e⟩ <;> rw [e] at moved
      · exact absurd rfl moved
      · exact absurd (writeConfig_keeps s p f w).1 moved
    | commit p w =>
      cases h
      rcases writeAccess_cases s p fun t => t.takeCommit p with e | ⟨-, e⟩ <;> rw [e] at moved ⊢
      · exact absurd rfl moved
      · exact .inr (.inl ⟨p, w, rfl, takeCommit_globalState moved⟩)
    | registerWrite p offset w => exact absurd (registerWrite_unwritten wf h).globalState moved
    | blockWriteCompletion =>
      cases h
      exact absurd (ownEvent_of (P := LogicFrame s) (.refl s) fun _ => blockWriteCompletion_logic s).globalState moved
    | clearWriteCompletion =>
      cases h
      rcases ownEvent_cases s State.clearWriteCompletion with ⟨-, e⟩ | ⟨-, e⟩ <;> rw [e] at moved ⊢
      · exact absurd rfl moved
      · obtain ⟨run, v, b, busy, last⟩ := clearWriteCompletion_globalState moved
        rw [run] at moved
        refine .inr (.inr ⟨rfl, run, fun laws => ?_, v, b, busy, last⟩)
        have active : s.globalState ≠ .setup := (laws.inside.channel _ busy).1
        cases e : s.globalState with
        | setup => exact absurd e active
        | clearing => rfl
        | run => exact absurd e.symm moved
    | _ => cases other

/-- Settles O5: the commands that keep the configuration logic apart, each of the others changes its own items of it. -/
theorem configurationAndGlobalStateHeld : Obligations.ConfigurationAndGlobalStateHeld :=
  ⟨configurationAndStrapsHeld, globalStateTransitions⟩

end Sys2Proof.Machine
end

section
/-! SUPPORT. Start-up, one command at a time: the device reset, the accesses that are held off, the configuration write, the
commit and the clear write (R8 to R16, R163). -/

namespace Sys2Proof.Machine

set_option Elab.async false

open Sys2Proof.Claims

/-! ### The assertion of the device reset pin (R16, R135) -/

/-- An abandoned access changes memory in the block of a block write alone (R135). -/
theorem abandonAccess_read {s : State} {x : Nat}
    (outside : ∀ v b q, s.channel = some ⟨.blockWrite v, b, q⟩ → x < s.addressOf b ∨ s.addressOf b + 32 ≤ x) :
    s.abandonAccess.memory.read x = s.memory.read x := by
  unfold State.abandonAccess
  split
  · next v b q busy => exact Memory.read_writeBlock_of_outside _ _ _ _ (outside v b q busy)
  · rfl

theorem assertReset_slot (s : State) (i : SlotNo) : s.assertReset.slot i = ⟨.free, 0, 0⟩ := by
  simp [State.slot, State.assertReset, State.reset, Slot.reset]

theorem assertReset_port (s : State) (p : Port) :
    s.assertReset.ports.get p = { HostPort.reset with resetPin := (s.ports.get p).resetPin } := by cases p <;> rfl

/-- Settles O7: the reset values are those of the assertion, and memory changes where an abandoned write stood. -/
theorem deviceResetAbandonsEverything : Obligations.DeviceResetAbandonsEverything := fun s =>
  ⟨s.assertReset, rfl, rfl, rfl, rfl, rfl, rfl, assertReset_slot s, fun p => PerPort.get_const _ p, rfl,
    assertReset_port s, rfl, fun p => PerPort.get_const _ p, rfl, rfl, rfl, rfl, rfl, rfl, rfl, rfl,
    fun _ outside => abandonAccess_read outside⟩

/-! ### Accesses held off (R16, R163) -/

section Held

variable {s : State} {p : Port} (held : s.ignoresAccess p = true)
include held

theorem writeAccess_of_ignored (f : State → State) : writeAccess s p f = s := by simp [writeAccess, held]

theorem readAccess_of_ignored (w : Word) (f : State → State) :
    readAccess s p w f = s.onPort p fun hp => { hp with readData := 0 } := by simp [readAccess, held]

theorem readValue_of_ignored (offset : BitVec 8) : readValue s p offset = 0 := by simp [readValue, held]

/-- A write that is held off changes nothing. -/
theorem held_write (f : State → State) : ∃ t, Host.Outcome.next (φ := Fault) (ρ := Refusal) (writeAccess s p f) = .next t ∧
    (t = s ∨ t = s.onPort p fun hp => { hp with readData := 0 }) :=
  ⟨s, by rw [writeAccess_of_ignored held], .inl rfl⟩

/-- An acting read that is held off returns 0 and changes nothing else. -/
theorem held_read (w : Word) (f : State → State) :
    ∃ t, Host.Outcome.next (φ := Fault) (ρ := Refusal) (readAccess s p w f) = .next t ∧
      (t = s ∨ t = s.onPort p fun hp => { hp with readData := 0 }) :=
  ⟨_, by rw [readAccess_of_ignored held], .inr rfl⟩

/-- Every access of a held port, by its command. -/
theorem exec_of_held {c : Instr} (access : accessPort c = some p) :
    ∃ t, exec c s = .next t ∧ (t = s ∨ t = s.onPort p fun hp => { hp with readData := 0 }) := by
  cases c with
  | configWrite | commit | fill | pattern | copy | upload | readback | fence | request | release | setVisible | cancel
  | uploadPush | abort | intEnable | noticeEnable | registerWrite => cases access; exact held_write held _
  | readbackPop | noticeWord1 | accessError | lossCount => cases access; exact held_read held _ _
  | badKind q kind => cases access; cases kind <;> exact held_write held _
  | detach q abortToo => cases access; cases abortToo <;> exact held_write held _
  | badOffset q bad =>
    cases access
    cases bad with
    | narrowRead offset => exact held_read held _ _
    | narrowWrite offset => exact held_write held _
    | unmappedRead offset =>
      simp only [exec, execBadOffset]
      split
      · exact ⟨s, rfl, .inl rfl⟩
      · exact held_read held _ _
    | unmappedWrite offset =>
      simp only [exec, execBadOffset]
      split
      · exact ⟨s, rfl, .inl rfl⟩
      · exact held_write held _
  | _ => cases access

end Held

/-- Settles O9: an access of a held port is ignored, whichever command it is. -/
theorem heldAccessesIgnored : Obligations.HeldAccessesIgnored := fun _ _ _ access pins =>
  ⟨exec_of_held (ignoresAccess_of_held pins) access, readValue_of_ignored (ignoresAccess_of_held pins)⟩

/-! ### The configuration write (R8, R9) -/

/-- A field placed at a bit position counts as many times over (R188). -/
theorem place_toNat {n low : Nat} (v : BitVec n) (fits : n + low ≤ 32) : (place v low).toNat = v.toNat * 2 ^ low := by
  have whole : 2 ^ n * 2 ^ low ≤ 2 ^ 32 := by rw [← Nat.pow_add]; exact Nat.pow_le_pow_right (by decide) fits
  have narrow : 2 ^ n ≤ 2 ^ 32 := Nat.pow_le_pow_right (by decide) (by omega)
  have placed : v.toNat * 2 ^ low < 2 ^ n * 2 ^ low := Nat.mul_lt_mul_of_pos_right v.isLt (Nat.two_pow_pos low)
  rw [place, BitVec.toNat_shiftLeft, BitVec.toNat_setWidth, Nat.mod_eq_of_lt (lt_of_lt_of_le v.isLt narrow), Nat.shiftLeft_eq,
    Nat.mod_eq_of_lt (lt_of_lt_of_le placed whole)]

theorem place_zero_toNat {n : Nat} (v : BitVec n) (fits : n ≤ 32) : (place v 0).toNat = v.toNat := by
  rw [place_toNat v fits, pow_zero, Nat.mul_one]

theorem placeFlag_zero_toNat (b : Bool) : (placeFlag b 0).toNat = b.toNat := by cases b <;> rfl

theorem flag_zero_toNat (w : Word) : (flag w 0).toNat = w.toNat % 2 := by
  rw [flag, BitVec.getLsbD, Nat.testBit_zero]
  rcases Nat.mod_two_eq_zero_or_one w.toNat with e | e <;> simp [e]

theorem field_zero_toNat (w : Word) (n : Nat) : (field w 0 n).toNat = w.toNat % 2 ^ n := by simp [field]

/-- A field reads as the low bits of the word written to it (R8). -/
theorem readConfig_storeConfig_self (f : ConfigField) (w : Word) (c : ConfigBlock) :
    (readConfig f (storeConfig f w c)).toNat = w.toNat % 2 ^ configWidth f := by
  cases f with
  | clearOnCommit =>
    simp only [readConfig, storeConfig, configWidth, placeFlag_zero_toNat, flag_zero_toNat, pow_one]
  | _ => simp [readConfig, storeConfig, configWidth, place_zero_toNat, field_zero_toNat]

/-- And every other field as before. -/
theorem readConfig_storeConfig_of_ne {f g : ConfigField} (h : g ≠ f) (w : Word) (c : ConfigBlock) :
    readConfig g (storeConfig f w c) = readConfig g c := by
  cases f with
  | quota p =>
    cases g with
    | quota q =>
      have ne : q ≠ p := fun e => h (by rw [e])
      simp [readConfig, storeConfig, PerPort.get_set_of_ne _ _ ne]
    | _ => rfl
  | _ => cases g <;> simp_all [readConfig, storeConfig]

/-- Settles O10: in SETUP the field stores its low bits, elsewhere the write is ignored with LOCKED. -/
theorem configWriteStoresOrLocks : Obligations.ConfigWriteStoresOrLocks := by
  intro p f w s taken
  have run : exec (.configWrite p f w) s = .next (s.writeConfig p f w) :=
    congrArg Host.Outcome.next (writeAccess_of_takes taken _)
  refine ⟨fun setup => ?_, fun later => ?_⟩
  · have stored : s.writeConfig p f w = { s with config := storeConfig f w s.config } := if_pos setup
    exact ⟨{ s with config := storeConfig f w s.config }, by rw [run, stored], readConfig_storeConfig_self f w _,
      fun g ne => readConfig_storeConfig_of_ne ne w _, rfl⟩
  · rw [run, show s.writeConfig p f w = s.setAccessError p .locked from if_neg later]
    rfl

/-! ### The commit (R10 to R15) -/

/-- The entry to RUN, said of the whole state (R15). -/
theorem enterRun_entersRun (s : State) : EntersRun s s.enterRun :=
  ⟨rfl, rfl, rfl, fun q => State.postAll_get _ _ q, rfl⟩

/-- Settles O11: the three outcomes of a commit by the first failing check, and LOCKED outside SETUP. -/
theorem commitOutcome : Obligations.CommitOutcome := by
  intro p w s taken
  have run : exec (.commit p w) s = .next (s.takeCommit p) := congrArg Host.Outcome.next (writeAccess_of_takes taken _)
  refine ⟨fun later => by rw [run, takeCommit_locked later]; rfl, fun setup => ⟨_, run, ?_⟩⟩
  cases checks : firstFailure (commitChecks s.config s.memorySize.bytes) with
  | some code => exact takeCommit_rejected setup checks
  | none =>
    simp only [takeCommit_accepted setup checks]
    split
    · rfl
    · exact enterRun_entersRun _

/-! ### The clear write (R14, R15) -/

/-- Settles O12: the block is stored and the channel freed, and then the position decides how the pass goes on. -/
theorem clearWriteCompletion : Obligations.ClearWriteCompletion := by
  intro s v b running busy
  have run : exec .clearWriteCompletion s = .next ((s.freeChannel.writeBlock b v).advanceClear b) := by
    rw [← clearWriteCompletion_of_busy busy]
    exact congrArg Host.Outcome.next (ownEvent_of_running running _)
  have memory : ((s.freeChannel.writeBlock b v).advanceClear b).memory = (s.freeChannel.writeBlock b v).memory := by
    unfold State.advanceClear
    split <;> rfl
  refine ⟨_, s.freeChannel.writeBlock b v, run, Memory.readBlock_writeBlock _ _ _,
    fun x outside => Memory.read_writeBlock_of_outside _ _ _ _ outside, rfl, rfl, memory, ?_, ?_, ?_, ?_⟩
  · exact fun column => advanceClear_next (nextClear_column column)
  · exact fun column row => advanceClear_next (nextClear_row column row)
  · exact fun column row layer => advanceClear_next (nextClear_layer column row layer)
  · intro column row layer
    have last : (s.freeChannel.writeBlock b v).nextClear b = none := nextClear_eq_none_iff.mpr ⟨layer, row, column⟩
    rw [advanceClear_last last]
    exact enterRun_entersRun _

end Sys2Proof.Machine
end

section
/-! SUPPORT. What the registers read: words laid out from fields, the status registers, every register after a device reset, and
the laws of the part right after it (R4, R158, R167, R171, R182, R187 to R189). -/

namespace Sys2Proof.Machine

set_option Elab.async false

open Sys2Proof.Claims

/-! ### Words laid out from fields (R188) -/

/-- A field placed above a word's bits adds to its value. -/
theorem or_place_toNat {w : Word} {n low : Nat} (v : BitVec n) (below : w.toNat < 2 ^ low) (fits : n + low ≤ 32) :
    (w ||| place v low).toNat = w.toNat + v.toNat * 2 ^ low := by
  rw [BitVec.toNat_or, place_toNat v fits, ← Nat.shiftLeft_eq, Nat.or_comm, ← Nat.shiftLeft_add_eq_or_of_lt below, Nat.add_comm]

theorem or_placeFlag_toNat {w : Word} {i : Nat} (b : Bool) (below : w.toNat < 2 ^ i) (fits : 1 + i ≤ 32) :
    (w ||| placeFlag b i).toNat = w.toNat + b.toNat * 2 ^ i := by
  rw [placeFlag, or_place_toNat _ below fits, BitVec.toNat_ofBool]

/-! ### Codes (R189) -/

theorem submitCode_toNat (r : SubmitResult) : r.code.toNat = submitNumber r := by cases r <;> rfl

theorem operationCode_toNat (o : LeaseOperation) : o.code.toNat = operationNumber o := by cases o <;> rfl

theorem leaseResults_code (r : LeaseResult) : leaseResults[r.code.toNat]? = some r := by cases r <;> rfl

theorem accessErrorCode_toNat (e : AccessError) : e.code.toNat = accessErrorNumber e := by cases e <;> rfl

theorem globalStateCode_toNat (g : GlobalState) : g.code.toNat = globalStateNumber g := by cases g <;> rfl

theorem commitCode_toNat (r : CommitResult) : r.code.toNat = commitNumber r := by cases r <;> rfl

/-! ### The status registers (R71, R158, R167, R171, R182) -/

section Words

variable (s : State) (p : Port)

theorem portStatusWord_toNat : (portStatusWord s p).toNat =
    (8 - (s.ports.get p).queue.length) + 16 * (s.leaseSlots.get p).waiting.isSome.toNat +
      256 * globalStateNumber s.globalState + 65536 * s.composer.frameNumber.toNat := by
  have free : (BitVec.ofNat 4 (s.ports.get p).freeCount).toNat = 8 - (s.ports.get p).queue.length := by
    rw [BitVec.toNat_ofNat, HostPort.freeCount, queueCapacity]; exact Nat.mod_eq_of_lt (by omega)
  have one := place_zero_toNat (BitVec.ofNat 4 (s.ports.get p).freeCount) (by decide)
  have waiting := (s.leaseSlots.get p).waiting.isSome.toNat_le
  have state := s.globalState.code.isLt
  have two := or_placeFlag_toNat (s.leaseSlots.get p).waiting.isSome (i := 4) (w := place _ 0) (by rw [one]; omega) (by decide)
  have three := or_place_toNat s.globalState.code (low := 8) (w := _ ||| _) (by rw [two]; omega) (by decide)
  have four := or_place_toNat s.composer.frameNumber (low := 16) (w := _ ||| _) (by rw [three]; omega) (by decide)
  rw [portStatusWord, four, three, two, one, free, ← globalStateCode_toNat]
  omega

theorem fifoStatusWord_toNat (caps : Capacities s) : (fifoStatusWord s p).toNat =
    (s.ports.get p).upload.length + 256 * (s.ports.get p).readback.length + 65536 * (s.ports.get p).notices.length := by
  have upload := caps.upload p
  have readback := caps.readback p
  have notices := caps.notices p
  have count {n m : Nat} (h : m < 2 ^ n) : (BitVec.ofNat n m).toNat = m := by
    rw [BitVec.toNat_ofNat]; exact Nat.mod_eq_of_lt h
  have words := count (n := 6) (m := (s.ports.get p).upload.length) (by omega)
  have one := place_zero_toNat (BitVec.ofNat 6 (s.ports.get p).upload.length) (by decide)
  have two := or_place_toNat (BitVec.ofNat 6 (s.ports.get p).readback.length) (low := 8) (w := place _ 0)
    (by rw [one, words]; omega) (by decide)
  rw [count (by omega)] at two
  have three := or_place_toNat (BitVec.ofNat 5 (s.ports.get p).notices.length) (low := 16) (w := _ ||| _)
    (by rw [two, one, words]; omega) (by decide)
  rw [count (by omega)] at three
  rw [fifoStatusWord, three, two, one, words]
  omega

theorem leaseResultWord_toNat : (leaseResultWord s p).toNat =
    operationNumber (s.leaseSlots.get p).record.operation + 256 * (s.leaseSlots.get p).record.result.code.toNat := by
  have operation := (s.leaseSlots.get p).record.operation.code.isLt
  have one := place_zero_toNat (s.leaseSlots.get p).record.operation.code (by decide)
  have two := or_place_toNat (s.leaseSlots.get p).record.result.code (low := 8) (w := place _ 0) (by rw [one]; omega) (by decide)
  rw [leaseResultWord, two, one, ← operationCode_toNat]
  omega

theorem leaseHandleWord_toNat : (leaseHandleWord s p).toNat = match (s.leaseSlots.get p).record.handle with
    | some h => handleNumber h + 65536
    | none => 0 := by
  unfold leaseHandleWord
  cases (s.leaseSlots.get p).record.handle with
  | none => rfl
  | some h =>
    have slot : (BitVec.ofNat 5 h.slot.val).toNat = h.slot.val := by
      rw [BitVec.toNat_ofNat]; exact Nat.mod_eq_of_lt h.slot.isLt
    have generation := h.generation.isLt
    have number := h.slot.isLt
    have one := place_zero_toNat (BitVec.ofNat 5 h.slot.val) (by decide)
    have two := or_place_toNat h.generation (low := 8) (w := place _ 0) (by rw [one, slot]; omega) (by decide)
    have three := or_placeFlag_toNat true (i := 16) (w := _ ||| _) (by rw [two, one, slot]; omega) (by decide)
    simp only [three, two, one, slot, handleNumber, Bool.toNat_true]
    omega

theorem portInfoWord_toNat : (portInfoWord s p).toNat = p.number + 256 * (s.precedence.get p).val := by
  have number : (BitVec.ofNat 2 p.number).toNat = p.number := by cases p <;> rfl
  have small : p.number < 4 := by cases p <;> decide
  have one := place_zero_toNat (BitVec.ofNat 2 p.number) (by decide)
  have two := or_place_toNat (BitVec.ofFin (s.precedence.get p) : BitVec 2) (low := 8) (w := place _ 0)
    (by rw [one, number]; omega) (by decide)
  rw [portInfoWord, two, one, number, BitVec.toNat_ofFin]
  omega

theorem globalStateWord_toNat : (globalStateWord s).toNat =
    globalStateNumber s.globalState + if s.memorySize = .mib32 then 256 else 0 := by
  have state := s.globalState.code.isLt
  have one := place_zero_toNat s.globalState.code (by decide)
  have two := or_placeFlag_toNat (s.memorySize == .mib32) (i := 8) (w := place _ 0) (by rw [one]; omega) (by decide)
  rw [globalStateWord, two, one, globalStateCode_toNat]
  cases s.memorySize <;> rfl

theorem lossCount_toNat (caps : Capacities s) :
    (place (BitVec.ofNat 8 (s.ports.get p).lossCount) 0).toNat = (s.ports.get p).lossCount := by
  have loss := caps.lossCount p
  rw [place_zero_toNat _ (by decide), BitVec.toNat_ofNat]
  exact Nat.mod_eq_of_lt (by omega)

end Words

/-- A read of a register where the port's accesses are taken (R161, R187). -/
theorem readValue_of_takes {s : State} {p : Port} (taken : s.takes p) {offset : BitVec 8} {r : Register}
    (mapped : registerAt offset = some r) : readValue s p offset = readRegister s p r := by
  simp [readValue, ignoresAccess_of_takes taken, mapped]

theorem statusRegisters : Claims.StatusRegisters := by
  intro s p taken caps
  have word {offset : BitVec 8} {r : Register} {w : Word} (mapped : registerAt offset = some r)
      (h : readRegister s p r = w) : readValue s p offset = w := (readValue_of_takes taken mapped).trans h
  have value {offset : BitVec 8} {r : Register} {n : Nat} (mapped : registerAt offset = some r)
      (h : (readRegister s p r).toNat = n) : (readValue s p offset).toNat = n := by rw [word mapped rfl, h]
  have field {n : Nat} (v : BitVec n) (fits : n ≤ 32) : (place v 0).toNat = v.toNat := place_zero_toNat v fits
  refine ⟨value rfl ((field _ (by decide)).trans (submitCode_toNat _)),
    ⟨_, leaseResults_code _, value rfl (leaseResultWord_toNat s p)⟩,
    value rfl (leaseHandleWord_toNat s p), value rfl (portStatusWord_toNat s p), value rfl (fifoStatusWord_toNat s p caps),
    value rfl ((field _ (by decide)).trans (accessErrorCode_toNat _)), value rfl (lossCount_toNat s p caps),
    value rfl (portInfoWord_toNat s p), value rfl (placeFlag_zero_toNat _), value rfl (field _ (by decide)),
    word rfl rfl, word rfl rfl, word rfl rfl, word rfl rfl, word rfl rfl, word rfl rfl, word rfl rfl, word rfl rfl,
    word rfl rfl, word rfl rfl,
    value rfl (field _ (by decide)), value rfl (field _ (by decide)), value rfl (field _ (by decide)),
    value rfl (field _ (by decide)), value rfl (field _ (by decide)),
    value rfl (field _ (by decide)), value rfl (field _ (by decide)), value rfl (field _ (by decide)),
    value rfl (field _ (by decide)), value rfl (field _ (by decide)), value rfl (field _ (by decide)),
    value rfl (field _ (by decide)), value rfl (placeFlag_zero_toNat _),
    value rfl ((field _ (by decide)).trans (commitCode_toNat _)), value rfl (globalStateWord_toNat s)⟩

/-! ### The end of a device reset (R4, R187) -/

theorem precedenceOf_val (pins : PrecedencePins) : (precedenceOf pins).val = 2 * pins.b.toNat + pins.a.toNat := by
  obtain ⟨a, b⟩ := pins
  cases a <;> cases b <;> rfl

theorem sampleStraps_precedence (s : State) (straps : Straps) (p : Port) :
    (s.sampleStraps straps).precedence.get p = precedenceOf (straps.precedence.get p) := by cases p <;> rfl

theorem deviceResetEndSamplesStraps : Claims.DeviceResetEndSamplesStraps := by
  intro straps s held
  refine ⟨s.sampleStraps straps, congrArg Host.Outcome.next (if_pos held), rfl, rfl, fun p => ?_, ?_⟩
  · rw [sampleStraps_precedence, precedenceOf_val]
  · rw [← held]; rfl

/-- The part after a whole device reset. -/
def State.afterReset (s : State) (straps : Straps) : State := s.assertReset.sampleStraps straps

/-- What a register holds after a device reset, register by register. -/
def valueAfterReset (p : Port) (pins : PrecedencePins) (msize : Bool) : Register → Nat
  | .portStatus => 8
  | .portInfo => p.number + 256 * (2 * pins.b.toNat + pins.a.toNat)
  | .noticeEnable => 0x3BF6
  | .config f => (readConfig f .default).toNat
  | .globalState => 256 * msize.toNat
  | _ => 0

/-- The table of R187 gives it at the register's offset. -/
theorem valueAfterReset_eq (p : Port) (pins : PrecedencePins) (msize : Bool) :
    ∀ row ∈ registerMap, valueAfterReset p pins msize row.register = wordAfterReset p pins msize row.offset :=
  List.map_inj_left.mp (rfl : registerMap.map (fun row => valueAfterReset p pins msize row.register) =
    registerMap.map fun row => wordAfterReset p pins msize row.offset)

/-- And 0 at every offset that holds no register. -/
theorem wordAfterReset_of_unmapped {p : Port} {pins : PrecedencePins} {msize : Bool} {n : Nat}
    (unmapped : ∀ row ∈ registerMap, n ≠ row.offset) : wordAfterReset p pins msize n = 0 := by
  simp [registerMap, portRegisters, counterRegisters, configRegisters] at unmapped
  simp [wordAfterReset, unmapped]

section AfterReset

variable {s : State} {straps : Straps} {p : Port} (released : (s.ports.get p).resetPin = .released)
include released

theorem afterReset_port : (s.afterReset straps).ports.get p = .reset := by
  show s.assertReset.ports.get p = _
  rw [assertReset_port, released]
  rfl

theorem afterReset_takes : (s.afterReset straps).takes p := ⟨rfl, by rw [afterReset_port released]; rfl⟩

/-- Each register after a device reset (R175, R187). -/
theorem afterReset_readRegister (r : Register) : (readRegister (s.afterReset straps) p r).toNat =
    valueAfterReset p (straps.precedence.get p) straps.msize r := by
  have port := afterReset_port (straps := straps) released
  have lease : (s.afterReset straps).leaseSlots.get p = .reset := PerPort.get_const _ p
  cases r with
  | cmdHandle | cmdRegionXY | cmdRegionWH | cmdRopMask | cmdColour | cmdFgBg | cmdPattern0 | cmdPattern1 | cmdOrigin
  | cmdSrcHandle | cmdSrcXY | cmdSrcKey | submitResult | leaseLayerRights | leaseRegionXY | leaseRegionWH | leaseVisKey
  | leaseFlags | readbackPop | noticeWord0 | noticeWord1 | accessError | lossCount | intEnable | noticeEnable
  | pixelsWritten | pixelsKeyed | commandsDone | commandsFaulted => simp only [readRegister, port]; rfl
  | submit | leaseOp | uploadPush | control | merges | fullForwards | underfills | voided | underruns | frames | config
  | commit | commitResult => rfl
  | leaseResult => simp only [readRegister, leaseResultWord, lease]; rfl
  | leaseHandle => simp only [readRegister, leaseHandleWord, lease]; rfl
  | portStatus =>
    show (portStatusWord (s.afterReset straps) p).toNat = _
    rw [portStatusWord_toNat, port, lease]
    rfl
  | fifoStatus => simp only [readRegister, fifoStatusWord, port]; rfl
  | portInfo =>
    show (portInfoWord (s.afterReset straps) p).toNat = _
    rw [portInfoWord_toNat, State.afterReset, sampleStraps_precedence, precedenceOf_val]
    rfl
  | globalState =>
    show (globalStateWord (s.afterReset straps)).toNat = _
    rw [globalStateWord_toNat]
    obtain ⟨precedence, msize⟩ := straps
    cases msize <;> rfl

/-- An offset of the map reads its register, every other offset 0 (R162, R187). -/
theorem afterReset_readValue (offset : BitVec 8) : (readValue (s.afterReset straps) p offset).toNat =
    wordAfterReset p (straps.precedence.get p) straps.msize offset.toNat := by
  cases row : rowAt offset with
  | some row' =>
    have found : row'.offset = offset.toNat := by simpa using List.find?_some row
    rw [readValue_of_takes (afterReset_takes released) (by rw [registerAt, row]; rfl), afterReset_readRegister released,
      valueAfterReset_eq _ _ _ row' (List.mem_of_find?_eq_some row), found]
  | none =>
    have unmapped : registerAt offset = none := by rw [registerAt, row]; rfl
    rw [wordAfterReset_of_unmapped fun row' mem found => by simpa [← found] using List.find?_eq_none.mp row row' mem]
    simp [readValue, ignoresAccess_of_takes (afterReset_takes (straps := straps) released), unmapped]

end AfterReset

theorem registersAfterDeviceReset : Claims.RegistersAfterDeviceReset := by
  intro s t u straps p offset released asserted sampled
  cases asserted
  cases sampled
  exact afterReset_readValue released offset

/-- Settles O8: the straps sampled, the table of R187, and the layouts of the status registers. -/
theorem deviceResetEndValues : Obligations.DeviceResetEndValues :=
  ⟨deviceResetEndSamplesStraps, registersAfterDeviceReset, statusRegisters⟩

/-! ### The part right after reset -/

theorem reset_slot (i : SlotNo) : State.reset.slot i = ⟨.free, 0, 0⟩ := by simp [State.slot, State.reset, Slot.reset]

theorem reset_port (p : Port) : State.reset.ports.get p = .reset := PerPort.get_const _ p

theorem reset_waiting (p : Port) : (State.reset.leaseSlots.get p).waiting = none :=
  congrArg LeaseSlot.waiting (PerPort.get_const LeaseSlot.reset p)

theorem reset_windowCount (p : Port) : State.reset.windowCount p = 0 := by
  simp [State.windowCount, reset_slot, Slot.live]

theorem reset_quiescent : Quiescent State.reset where
  table i := by rw [reset_slot]
  leases := reset_waiting
  queues p := by rw [reset_port]; rfl
  engine := rfl
  items := rfl
  engineRead := rfl
  channel := rfl
  clear := rfl
  running := rfl
  fetchLine := rfl
  fetchList := rfl

theorem reset_capacities : Capacities State.reset where
  queue p := by rw [reset_port]; exact Nat.zero_le _
  upload p := by rw [reset_port]; exact Nat.zero_le _
  readback p := by rw [reset_port]; exact Nat.zero_le _
  notices p := by rw [reset_port]; exact Nat.zero_le _
  lossCount p := by rw [reset_port]; exact Nat.zero_le _
  skips p := by rw [show State.reset.skips.get p = 0 from PerPort.get_const 0 p]; exact Nat.zero_le _
  occupancy := Nat.zero_le _
  markers _ := Nat.zero_le _
  spans a e := by cases e

theorem reset_bufferLaws : BufferLaws State.reset where
  outstanding :=
    { counts := fun i => by rw [reset_slot]; rfl
      generation := fun e m => by cases m
      free := fun i _ => by rw [reset_slot] }
  entries e m := by cases m
  markers _ := rfl

theorem reset_leaseLaws : LeaseLaws State.reset where
  quota :=
    { within := fun p => by rw [reset_windowCount]; exact Nat.zero_le _
      waiting := fun p e => by rw [reset_waiting] at e; cases e }
  overlap i j w v hw := by rw [reset_slot] at hw; cases hw
  wait :=
    { waiting := fun p => by rw [reset_waiting]; exact ⟨(fun m => by cases m), fun e => by cases e⟩
      nodup := List.nodup_nil
      ordered := List.Pairwise.nil
      parked := fun p w e => by rw [reset_waiting] at e; cases e }
  setup :=
    { reset := fun _ => rfl
      table := fun _ i => by rw [reset_slot]
      waitList := fun _ => rfl }

/-- Settles O60: right after reset no block has work, so that every law holds of nothing. -/
theorem lawsHoldAtReset : Obligations.LawsHoldAtReset :=
  ⟨reset_capacities, ⟨rfl, rfl⟩, List.Pairwise.nil, reset_bufferLaws, reset_leaseLaws,
    reset_quiescent.laws (fun _ => rfl) fun act => absurd rfl act⟩

end Sys2Proof.Machine
end

section
/-! SUPPORT. What completing markers, signalling a departure, freeing a slot and revoking a window do, each said once for the
whole state (R24, R29, R125, R127, R130). -/

namespace Sys2Proof.Machine

open Sys2Proof.Claims

/-! ### Updates of one slot -/

theorem State.onSlot_congr {s : State} {i : SlotNo} {f g : Slot → Slot} (h : f (s.slot i) = g (s.slot i)) :
    s.onSlot i f = s.onSlot i g := by
  unfold State.slot at h
  unfold State.onSlot
  rw [h]

theorem State.onSlot_eq_self {s : State} {i : SlotNo} {f : Slot → Slot} (h : f (s.slot i) = s.slot i) : s.onSlot i f = s := by
  unfold State.slot at h
  unfold State.onSlot
  rw [h]
  simp

theorem State.onSlot_onSlot (s : State) (i : SlotNo) (f g : Slot → Slot) :
    (s.onSlot i f).onSlot i g = s.onSlot i fun sl => g (f sl) := by
  simp [State.onSlot]

/-! ### Markers (R129, R130) -/

section Markers

variable (p : Port)

theorem completing_entry (e : Entry) (rest : List AgeItem) :
    completing p (.entry e :: rest) = if e.port = p then [] else completing p rest := by
  by_cases h : e.port = p <;> simp [completing, beforeEntries, AgeItem.entry?, h]

theorem completing_marker (m : Marker) (rest : List AgeItem) :
    completing p (.marker m :: rest) = if m.port = p then m :: completing p rest else completing p rest := by
  by_cases h : m.port = p <;> simp [completing, beforeEntries, AgeItem.entry?, h]

theorem withoutCompleting_entry (e : Entry) (rest : List AgeItem) :
    withoutCompleting p (.entry e :: rest) = .entry e :: if e.port = p then rest else withoutCompleting p rest := by
  by_cases h : e.port = p <;> simp [withoutCompleting, beforeEntries, AgeItem.entry?, AgeItem.marker?, h]

theorem withoutCompleting_marker (m : Marker) (rest : List AgeItem) :
    withoutCompleting p (.marker m :: rest) =
      if m.port = p then withoutCompleting p rest else .marker m :: withoutCompleting p rest := by
  by_cases h : m.port = p <;> simp [withoutCompleting, beforeEntries, AgeItem.entry?, AgeItem.marker?, h]

/-- The model's walk over the age order takes the tokens of the markers that complete, and leaves the rest (R130). -/
theorem takeMarkers_eq (items : List AgeItem) :
    takeMarkers p items = ((completing p items).map Marker.token, withoutCompleting p items) := by
  induction items with
  | nil => rfl
  | cons it rest ih =>
    cases it with
    | entry e => by_cases h : e.port = p <;> simp [takeMarkers, completing_entry, withoutCompleting_entry, h, ih]
    | marker m => by_cases h : m.port = p <;> simp [takeMarkers, completing_marker, withoutCompleting_marker, h, ih]

theorem completing_eq_nil_iff (items : List AgeItem) : completing p items = [] ↔ (takeMarkers p items).1 = [] := by
  rw [takeMarkers_eq, List.map_eq_nil_iff]

@[simp] theorem withoutCompleting_entries (items : List AgeItem) :
    (withoutCompleting p items).filterMap AgeItem.entry? = items.filterMap AgeItem.entry? := by
  simpa [takeMarkers_eq] using takeMarkers_entries p items

/-- Where a port has no marker, none of its markers completes. -/
theorem completing_of_no_markers {items : List AgeItem} (none : ∀ m ∈ items.filterMap AgeItem.marker?, m.port ≠ p) :
    completing p items = [] ∧ withoutCompleting p items = items := by
  induction items with
  | nil => exact ⟨rfl, rfl⟩
  | cons it rest ih =>
    cases it with
    | entry e =>
      obtain ⟨ih1, ih2⟩ := ih none
      simp [completing_entry, withoutCompleting_entry, ih1, ih2]
    | marker m =>
      rw [markers_marker] at none
      obtain ⟨ih1, ih2⟩ := ih fun k hk => none k (List.mem_cons_of_mem _ hk)
      simp [completing_marker, withoutCompleting_marker, none m List.mem_cons_self, ih1, ih2]

end Markers

@[simp] theorem fenced_nil (hp : HostPort) : fenced [] hp = hp := rfl

/-- The completion of a port's markers: they leave the age order and the port is told of each (R130). -/
theorem completeMarkers_eq (s : State) (p : Port) : s.completeMarkers p =
    (s.onBuffer fun b => { b with items := withoutCompleting p b.items }).onPort p
      (fenced (completing p s.buffer.items)) := by
  have notices (ms : List Marker) (hp : HostPort) :
      ((ms.map Marker.token).map Notice.fenceDone).foldl (fun h n => h.offer n) hp = fenced ms hp := by
    rw [List.map_map]; rfl
  rw [State.completeMarkers, State.postList_eq]
  simp only [takeMarkers_eq, notices]

/-- The signal of a departure at the engine (R116, R125). -/
theorem signalDeparture_eq (s : State) : s.signalDeparture = s.onEngine signalled := by
  unfold State.signalDeparture State.onEngine signalled
  by_cases h : s.engine.state = .waitBuffer
  · simp [h]
  · have other : (s.engine.state == .waitBuffer) = false := by simpa using h
    simp [h, other]

@[simp] theorem signalled_signalled (e : Engine) : signalled (signalled e) = signalled e := by simp [signalled]

/-! ### Freeing (R29) -/

/-- A slot after its freeing check. -/
def Slot.freed (sl : Slot) : Slot := if sl.mayFree then { sl with state := .free } else sl

/-- The notice of a slot's freeing check to port `p`: WINDOW_FREED to the owner of a DRAINING window that is freed. -/
def Slot.freedNotices (i : SlotNo) (sl : Slot) (p : Port) : List Notice :=
  match sl.state with
  | .draining w _ => if sl.mayFree = true ∧ w.owner = p then [.windowFreed ⟨i, sl.generation⟩] else []
  | _ => []

theorem Slot.mayFree_iff (sl : Slot) : sl.mayFree = true ↔
    sl.outstanding = 0 ∧ ∃ w, sl.state = .draining w true ∨ sl.state = .revoked w true := by
  unfold Slot.mayFree
  cases sl.state <;> simp [and_comm]

theorem Slot.freed_of_not {sl : Slot} (h : ¬ sl.mayFree = true) : sl.freed = sl := if_neg h

/-- The freeing check changes its slot and, where it frees a DRAINING one, its owner's notices; nothing else (R29). -/
theorem freeingCheck_spec (s : State) (i : SlotNo) :
    (∀ j, (s.freeingCheck i).slot j = if j = i then (s.slot i).freed else s.slot j) ∧
    (∀ p, (s.freeingCheck i).ports.get p =
      ((s.slot i).freedNotices i p).foldl (fun hp n => hp.offer n) (s.ports.get p)) ∧
    { s.freeingCheck i with table := s.table, ports := s.ports } = s := by
  unfold State.freeingCheck Slot.freed Slot.freedNotices
  split
  · next w passed free state =>
    refine ⟨fun j => ?_, fun p => ?_, rfl⟩
    · rw [free]; exact State.onSlot_slot s i j fun sl => { sl with state := .free }
    · rw [free, state]
      by_cases hp : w.owner = p
      · subst hp; simp [State.post, State.onSlot]
      · rw [State.post, State.onPort_get_of_ne _ _ (Ne.symm hp)]; simp [hp, State.onSlot]
  · next free other =>
    refine ⟨fun j => ?_, fun p => ?_, rfl⟩
    · rw [free]; exact State.onSlot_slot s i j _
    · split
      · next w passed state => exact absurd state (other w passed)
      · rfl
  · next free =>
    refine ⟨fun j => ?_, fun p => ?_, rfl⟩
    · rw [free]; split <;> simp [*]
    · rw [free]; split <;> simp

/-- The freeing check of a slot that is not DRAINING tells nobody (R29). -/
theorem freeingCheck_of_not_draining {s : State} {i : SlotNo} (other : ∀ w passed, (s.slot i).state ≠ .draining w passed) :
    s.freeingCheck i = s.onSlot i Slot.freed := by
  unfold State.freeingCheck
  split
  · next w passed _ state => exact absurd state (other w passed)
  · next free _ => exact State.onSlot_congr (by rw [Slot.freed, if_pos free])
  · next free => exact (State.onSlot_eq_self (Slot.freed_of_not (by simp [free]))).symm

/-! ### Voiding (R127) -/

theorem voidItems_entries_eq (h : Handle) (items : List AgeItem) : (voidItems h items).filterMap AgeItem.entry? =
    ((items.filterMap AgeItem.entry?).filter fun e => !Entry.leavesAtRevocation h e).map (Entry.voidFilling h) := by
  induction items with
  | nil => rfl
  | cons it rest ih =>
    cases it with
    | entry e =>
      cases he : Entry.leavesAtRevocation h e
      · simpa [voidItems, he, AgeItem.onEntry, AgeItem.entry?] using ih
      · simpa [voidItems, he, AgeItem.entry?] using ih
    | marker m => simpa [voidItems, AgeItem.onEntry, AgeItem.entry?] using ih

/-- Voiding a handle's entries, with the owner's markers completed and the engine signalled where one left (R125, R127). -/
theorem voidEntries_eq (s : State) (h : Handle) (owner : Port) : s.voidEntries h owner =
    let n := s.buffer.entries.countP (Entry.leavesAtRevocation h)
    let kept := voidItems h s.buffer.items
    { s with
      table := (s.onSlot h.slot fun sl => { sl with outstanding := sl.outstanding - n }).table
      engine := if n = 0 then s.engine else signalled s.engine
      ports := s.ports.set owner (fenced (if n = 0 then [] else completing owner kept) (s.ports.get owner))
      buffer := { s.buffer with
        items := if n = 0 then kept else withoutCompleting owner kept
        voided := s.buffer.voided + BitVec.ofNat 32 n } } := by
  unfold State.voidEntries
  simp only []
  split
  · simp; rfl
  · simp only [signalDeparture_eq, completeMarkers_eq]
    rfl

/-! ### Revocation (R24) -/

/-- The slot holds window `w` HELD or DRAINING, and a revocation leaves its frame_passed at `passed` (R24). -/
def Slot.revocable (sl : Slot) (w : Window) (passed : Bool) : Prop :=
  sl.state = .held w ∧ passed = false ∨ sl.state = .draining w passed

theorem Slot.live_iff (sl : Slot) (w : Window) : sl.live = some w ↔ ∃ passed, sl.revocable w passed := by
  unfold Slot.live Slot.revocable
  cases sl.state <;> simp

/-- A slot once its window `w` is revoked and `n` entries of it have left (R24, R29, R127). -/
def Slot.revokedTo (sl : Slot) (w : Window) (passed : Bool) (n : Nat) : Slot :=
  ⟨if passed ∧ sl.outstanding - n = 0 then .free else .revoked w passed, sl.generation, sl.outstanding - n⟩

/-- A revoked slot is REVOKED or FREE. -/
theorem Slot.revokedTo_live (sl : Slot) (w : Window) (passed : Bool) (n : Nat) : (sl.revokedTo w passed n).live = none := by
  unfold Slot.revokedTo Slot.live
  by_cases h : passed = true ∧ sl.outstanding - n = 0 <;> simp [h]

/-- The handle of the window that a slot holds. -/
def State.handle (s : State) (i : SlotNo) : Handle := ⟨i, (s.slot i).generation⟩

/-- The entries that leave at the revocation of a slot's window (R127). -/
def State.leaving (s : State) (i : SlotNo) : Nat := s.buffer.entries.countP (Entry.leavesAtRevocation (s.handle i))

/-- What the revocation of window `w` of slot `i` leads to (R24, R125, R127, R130). -/
structure Revocation (s t : State) (i : SlotNo) (w : Window) (passed : Bool) (preemptor : Option Port) : Prop where
  items : t.buffer.items = if s.leaving i = 0 then voidItems (s.handle i) s.buffer.items
    else withoutCompleting w.owner (voidItems (s.handle i) s.buffer.items)
  voided : t.buffer.voided = s.buffer.voided + BitVec.ofNat 32 (s.leaving i)
  slot : t.slot i = (s.slot i).revokedTo w passed (s.leaving i)
  others : ∀ j, j ≠ i → t.slot j = s.slot j
  engine : t.engine = if s.leaving i = 0 then s.engine else signalled s.engine
  owner : t.ports.get w.owner = (preemptor.toList.map (Notice.windowRevoked (s.handle i))).foldl (fun hp n => hp.offer n)
    (fenced (if s.leaving i = 0 then [] else completing w.owner (voidItems (s.handle i) s.buffer.items))
      (s.ports.get w.owner))
  ports : ∀ q, q ≠ w.owner → t.ports.get q = s.ports.get q
  rest : { t with
    table := s.table, engine := s.engine, ports := s.ports
    buffer := { t.buffer with items := s.buffer.items, voided := s.buffer.voided } } = s

/-- A REVOKED slot after its freeing check (R29). -/
theorem Slot.freed_revoked (w : Window) (passed : Bool) (generation : BitVec 8) (n : Nat) :
    Slot.freed ⟨.revoked w passed, generation, n⟩ =
      ⟨if passed = true ∧ n = 0 then .free else .revoked w passed, generation, n⟩ := by
  by_cases h : passed = true ∧ n = 0 <;> simp [Slot.freed, Slot.mayFree, h]

/-- The voiding and the freeing check of a revocation (R24, R29, R127). -/
theorem revokeWindow_none_eq (s : State) (i : SlotNo) (w : Window) (passed : Bool) : s.revokeWindow i w passed none =
    let n := s.leaving i
    let kept := voidItems (s.handle i) s.buffer.items
    { s with
      table := (s.onSlot i fun sl => sl.revokedTo w passed n).table
      engine := if n = 0 then s.engine else signalled s.engine
      ports := s.ports.set w.owner (fenced (if n = 0 then [] else completing w.owner kept) (s.ports.get w.owner))
      buffer := { s.buffer with
        items := if n = 0 then kept else withoutCompleting w.owner kept
        voided := s.buffer.voided + BitVec.ofNat 32 n } } := by
  let v := (s.onSlot i fun sl => { sl with state := .revoked w passed }).voidEntries (s.handle i) w.owner
  have table : v.table = (s.onSlot i fun sl => ⟨.revoked w passed, sl.generation, sl.outstanding - s.leaving i⟩).table := by
    simp only [v, voidEntries_eq, State.onSlot_buffer]
    exact congrArg State.table (State.onSlot_onSlot s i _ _)
  have slot : v.slot i = ⟨.revoked w passed, (s.slot i).generation, (s.slot i).outstanding - s.leaving i⟩ := by
    rw [State.slot_of_table table, State.onSlot_slot_self]
  have freed : (v.onSlot i Slot.freed).table = (s.onSlot i fun sl => sl.revokedTo w passed (s.leaving i)).table := by
    simp only [State.onSlot, table]
    simp [Slot.freed_revoked, Slot.revokedTo]
  have checked : s.revokeWindow i w passed none = v.onSlot i Slot.freed :=
    freeingCheck_of_not_draining (s := v) (by rw [slot]; intro w' passed' h; cases h)
  rw [checked]
  simp only [v, voidEntries_eq, State.onSlot_buffer] at freed ⊢
  simp only [State.onSlot] at freed ⊢
  rw [freed]
  rfl

/-- The revocation of a window, for the whole state (R24, R127). -/
theorem revokeWindow_spec (s : State) (i : SlotNo) (w : Window) (passed : Bool) (preemptor : Option Port) :
    Revocation s (s.revokeWindow i w passed preemptor) i w passed preemptor := by
  have unnotified : Revocation s (s.revokeWindow i w passed none) i w passed none := by
    rw [revokeWindow_none_eq]
    exact
      { items := rfl, voided := rfl, engine := rfl, rest := rfl
        slot := State.onSlot_slot_self s i fun sl => sl.revokedTo w passed (s.leaving i)
        others := fun j hj => State.onSlot_slot_of_ne s (fun sl => sl.revokedTo w passed (s.leaving i)) hj
        owner := PerPort.get_set_self _ _ _
        ports := fun q hq => PerPort.get_set_of_ne _ _ hq }
  cases preemptor with
  | none => exact unnotified
  | some q =>
    have posted : s.revokeWindow i w passed (some q) =
      (s.revokeWindow i w passed none).post w.owner (.windowRevoked (s.handle i) q) := rfl
    rw [posted]
    exact
      { unnotified with
        owner := by rw [State.post, State.onPort_get_self, unnotified.owner]; rfl
        ports := fun r hr => (State.onPort_get_of_ne _ _ hr).trans (unnotified.ports r hr) }

/-- The revocation of a HELD or DRAINING slot (R24). -/
theorem revoke_spec {s : State} {i : SlotNo} {w : Window} {passed : Bool} (h : (s.slot i).revocable w passed)
    (preemptor : Option Port) : Revocation s (s.revoke i preemptor) i w passed preemptor := by
  have window : s.revoke i preemptor = s.revokeWindow i w passed preemptor := by
    rcases h with ⟨state, rfl⟩ | state <;> rw [State.revoke, state]
  rw [window]
  exact revokeWindow_spec s i w passed preemptor

/-- Settles O18: the whole-state account of a revocation, clause by clause. -/
theorem revocationVoids : Obligations.RevocationVoids := by
  intro s i w passed preemptor revocable
  have r := revoke_spec revocable preemptor
  refine ⟨?_, r.items, r.voided, r.slot, r.others, r.engine, fun q => ?_, r.rest⟩
  · have entries : (s.revoke i preemptor).buffer.entries = (voidItems (s.handle i) s.buffer.items).filterMap AgeItem.entry? := by
      rw [Buffer.entries, r.items]
      split
      · rfl
      · exact withoutCompleting_entries _ _
    rw [entries, voidItems_entries_eq]
    rfl
  · by_cases hq : q = w.owner
    · subst hq
      rw [if_pos rfl, r.owner]
      cases preemptor <;> rfl
    · rw [if_neg hq]
      exact r.ports q hq

end Sys2Proof.Machine
end

section
/-! SUPPORT. Several windows revoked in turn, as a preempting grant and a detach do, said once for the whole state (R24, R25,
R47, R127). -/

namespace Sys2Proof.Machine

open Sys2Proof.Claims

/-! ### Voiding under several handles (R127) -/

/-- Whether the entry carries one of the handles and leaves at its revocation. -/
def Entry.leavesAmong (hs : List Handle) (e : Entry) : Bool :=
  hs.contains e.handle && (e.state == .opened || e.state == .closed)

/-- A FILLING entry of one of the handles becomes VOID. -/
def Entry.voidAmong (hs : List Handle) (e : Entry) : Entry :=
  if e.handle ∈ hs ∧ e.state = .filling then { e with state := .voided } else e

/-- The age order after the entries of several handles are voided. -/
def voidItemsAmong (hs : List Handle) (items : List AgeItem) : List AgeItem :=
  (items.filter fun it => !(it.entry?.any (Entry.leavesAmong hs))).map (AgeItem.onEntry (Entry.voidAmong hs))

theorem Entry.voidAmong_nil (e : Entry) : e.voidAmong [] = e := by simp [Entry.voidAmong]

theorem voidItemsAmong_nil (items : List AgeItem) : voidItemsAmong [] items = items := by
  have keep : AgeItem.onEntry (Entry.voidAmong []) = id := by
    funext it
    cases it <;> simp [AgeItem.onEntry, Entry.voidAmong_nil]
  have stays (it : AgeItem) : it.entry?.any (Entry.leavesAmong []) = false := by
    cases it <;> simp [AgeItem.entry?, Entry.leavesAmong]
  simp [voidItemsAmong, keep, stays]

theorem Entry.leavesAmong_singleton (h : Handle) (e : Entry) : e.leavesAmong [h] = e.leavesAtRevocation h := by
  unfold Entry.leavesAmong Entry.leavesAtRevocation
  rw [List.contains_cons, List.contains_nil, Bool.or_false]

theorem Entry.leavesAmong_cons (h : Handle) (hs : List Handle) (e : Entry) :
    e.leavesAmong (h :: hs) = (e.leavesAtRevocation h || e.leavesAmong hs) := by
  unfold Entry.leavesAmong Entry.leavesAtRevocation
  rw [List.contains_cons, Bool.and_or_distrib_right]

/-- Voiding a FILLING entry under one handle lets it leave under none. -/
theorem Entry.leavesAmong_voidFilling (h : Handle) (hs : List Handle) (e : Entry) :
    (Entry.voidFilling h e).leavesAmong hs = e.leavesAmong hs := by
  unfold Entry.voidFilling
  split
  · next filling =>
    unfold Entry.leavesAmong
    rw [filling.2]
    rfl
  · rfl

theorem Entry.voidAmong_voidFilling (h : Handle) (hs : List Handle) (e : Entry) :
    (Entry.voidFilling h e).voidAmong hs = e.voidAmong (h :: hs) := by
  unfold Entry.voidFilling Entry.voidAmong
  by_cases filling : e.state = .filling <;> by_cases here : e.handle = h <;> simp [filling, here]

theorem voidItemsAmong_cons (h : Handle) (hs : List Handle) (items : List AgeItem) :
    voidItemsAmong (h :: hs) items = voidItemsAmong hs (voidItems h items) := by
  have stays (it : AgeItem) : (AgeItem.onEntry (Entry.voidFilling h) it).entry?.any (Entry.leavesAmong hs) =
      it.entry?.any (Entry.leavesAmong hs) := by
    cases it <;> simp [AgeItem.onEntry, AgeItem.entry?, Entry.leavesAmong_voidFilling]
  have voids (it : AgeItem) : AgeItem.onEntry (Entry.voidAmong hs) (AgeItem.onEntry (Entry.voidFilling h) it) =
      AgeItem.onEntry (Entry.voidAmong (h :: hs)) it := by
    cases it <;> simp [AgeItem.onEntry, Entry.voidAmong_voidFilling]
  have among (it : AgeItem) : it.entry?.any (Entry.leavesAmong (h :: hs)) =
      (it.entry?.any (Entry.leavesAtRevocation h) || it.entry?.any (Entry.leavesAmong hs)) := by
    cases it <;> simp [AgeItem.entry?, Entry.leavesAmong_cons]
  unfold voidItemsAmong voidItems
  rw [List.filter_map, List.filter_filter, List.map_map]
  congr 1
  · funext it; exact (voids it).symm
  · congr 1
    funext it
    simp [stays, among, Bool.and_comm]

/-- What the entries of several handles become. -/
theorem voidItemsAmong_entries (hs : List Handle) (items : List AgeItem) :
    (voidItemsAmong hs items).filterMap AgeItem.entry? =
      ((items.filterMap AgeItem.entry?).filter fun e => !e.leavesAmong hs).map (Entry.voidAmong hs) := by
  induction items with
  | nil => rfl
  | cons it rest ih =>
    cases it with
    | entry e =>
      cases he : e.leavesAmong hs
      · simpa [voidItemsAmong, he, AgeItem.onEntry, AgeItem.entry?] using ih
      · simpa [voidItemsAmong, he, AgeItem.entry?] using ih
    | marker m => simpa [voidItemsAmong, AgeItem.onEntry, AgeItem.entry?] using ih

/-- Where the entries' state under the handles is what a voiding leaves. -/
theorem voidAmong_state {hs : List Handle} {e : Entry} (stays : e.leavesAmong hs = false) (handle : (e.voidAmong hs).handle ∈ hs) :
    (e.voidAmong hs).state = .writing ∨ (e.voidAmong hs).state = .voided := by
  unfold Entry.voidAmong at handle ⊢
  split
  · exact .inr rfl
  · next other =>
    rw [if_neg other] at handle
    cases state : e.state <;> simp_all [Entry.leavesAmong]

/-- The entries that leave under the first handle and then under the others are those that leave under one of them. -/
theorem countP_leavesAmong_cons (h : Handle) (hs : List Handle) (es : List Entry) :
    es.countP (Entry.leavesAmong (h :: hs)) = es.countP (Entry.leavesAtRevocation h) +
      ((es.filter fun e => !Entry.leavesAtRevocation h e).map (Entry.voidFilling h)).countP (Entry.leavesAmong hs) := by
  induction es with
  | nil => rfl
  | cons e rest ih =>
    cases gone : Entry.leavesAtRevocation h e <;>
      simp [List.countP_cons, gone, ih, Entry.leavesAmong_cons, Entry.leavesAmong_voidFilling]
    all_goals omega

/-- Voiding under one handle takes no entry of another one away. -/
theorem countP_leavesAtRevocation_of_ne {h k : Handle} (ne : k ≠ h) (es : List Entry) :
    ((es.filter fun e => !Entry.leavesAtRevocation h e).map (Entry.voidFilling h)).countP (Entry.leavesAtRevocation k) =
      es.countP (Entry.leavesAtRevocation k) := by
  have other (e : Entry) : Entry.leavesAtRevocation k (Entry.voidFilling h e) = Entry.leavesAtRevocation k e := by
    rw [← Entry.leavesAmong_singleton, Entry.leavesAmong_voidFilling, Entry.leavesAmong_singleton]
  rw [List.countP_map, List.countP_filter]
  refine List.countP_congr fun e _ => ?_
  rw [Function.comp, other]
  by_cases eh : e.handle = k
  · simp [Entry.leavesAtRevocation, eh, ne]
  · simp [Entry.leavesAtRevocation, eh]

/-! ### Several revocations -/

/-- The windows of several slots revoked in turn. -/
def State.revokeAll (s : State) (l : List SlotNo) (preemptor : Option Port) : State :=
  l.foldl (fun t i => t.revoke i preemptor) s

/-- What the revocation of the windows of several slots leads to (R24, R25, R47). -/
structure Revocations (s t : State) (l : List SlotNo) : Prop where
  entries : t.buffer.entries = (voidItemsAmong (l.map s.handle) s.buffer.items).filterMap AgeItem.entry?
  items : ∀ p, (∀ m ∈ s.buffer.markers, m.port ≠ p) → (∀ i ∈ l, ∀ w, (s.slot i).live = some w → w.owner = p) →
    t.buffer.items = voidItemsAmong (l.map s.handle) s.buffer.items
  voided : t.buffer.voided = s.buffer.voided + BitVec.ofNat 32 (s.buffer.entries.countP (Entry.leavesAmong (l.map s.handle)))
  slots : ∀ i ∈ l, ∀ w passed, (s.slot i).revocable w passed → t.slot i = (s.slot i).revokedTo w passed (s.leaving i)
  others : ∀ j, j ∉ l → t.slot j = s.slot j
  engine : t.engine = if s.buffer.entries.countP (Entry.leavesAmong (l.map s.handle)) = 0 then s.engine
    else signalled s.engine
  ports : ∀ q, (∀ i ∈ l, ∀ w, (s.slot i).live = some w → w.owner ≠ q) → t.ports.get q = s.ports.get q
  rest : { t with
    table := s.table, engine := s.engine, ports := s.ports
    buffer := { t.buffer with items := s.buffer.items, voided := s.buffer.voided } } = s

theorem Revocation.entries {s t : State} {i : SlotNo} {w : Window} {passed : Bool} {preemptor : Option Port}
    (r : Revocation s t i w passed preemptor) :
    t.buffer.entries = (voidItems (s.handle i) s.buffer.items).filterMap AgeItem.entry? := by
  rw [Buffer.entries, r.items]
  split
  · rfl
  · exact withoutCompleting_entries _ _

theorem revokeAll_spec {s : State} {l : List SlotNo} (distinct : l.Nodup) (live : ∀ i ∈ l, (s.slot i).live.isSome)
    (preemptor : Option Port) : Revocations s (s.revokeAll l preemptor) l := by
  induction l generalizing s with
  | nil =>
    exact
      { entries := by rw [List.map_nil, voidItemsAmong_nil]; rfl
        items := fun _ _ _ => (voidItemsAmong_nil _).symm
        voided := by
          have none : Entry.leavesAmong [] = fun _ => false := by funext e; rfl
          simp [none]; rfl
        slots := fun i m => by cases m
        others := fun _ _ => rfl
        engine := by
          have none : Entry.leavesAmong [] = fun _ => false := by funext e; rfl
          simp [none]; rfl
        ports := fun _ _ => rfl
        rest := rfl }
  | cons i l ih =>
    obtain ⟨fresh, distinct⟩ := List.nodup_cons.mp distinct
    obtain ⟨w, hw⟩ := Option.isSome_iff_exists.mp (live i List.mem_cons_self)
    obtain ⟨passed, revocable⟩ := (Slot.live_iff _ w).mp hw
    have first := revoke_spec revocable preemptor
    have kept (j : SlotNo) (m : j ∈ l) : (s.revoke i preemptor).slot j = s.slot j :=
      first.others j fun e => fresh (e ▸ m)
    have later : Revocations (s.revoke i preemptor) (s.revokeAll (i :: l) preemptor) l :=
      ih distinct fun j m => by rw [kept j m]; exact live j (List.mem_cons_of_mem _ m)
    have handles : l.map (s.revoke i preemptor).handle = l.map s.handle :=
      List.map_congr_left fun j m => by rw [State.handle, State.handle, kept j m]
    have es := first.entries
    rw [voidItems_entries_eq] at es
    have left (j : SlotNo) (m : j ∈ l) : (s.revoke i preemptor).leaving j = s.leaving j := by
      have ne : s.handle j ≠ s.handle i := fun e => by
        have same : j = i := congrArg Handle.slot e
        exact fresh (same ▸ m)
      rw [State.leaving, State.handle, kept j m, es]
      exact countP_leavesAtRevocation_of_ne ne _
    have count : s.buffer.entries.countP (Entry.leavesAmong ((i :: l).map s.handle)) = s.leaving i +
        (s.revoke i preemptor).buffer.entries.countP (Entry.leavesAmong (l.map s.handle)) := by
      rw [es, List.map_cons, countP_leavesAmong_cons]; rfl
    exact
      { entries := by
          have one : (s.revoke i preemptor).buffer.items.filterMap AgeItem.entry? = _ := first.entries
          rw [later.entries, handles, List.map_cons, voidItemsAmong_cons, voidItemsAmong_entries, voidItemsAmong_entries, one]
        items := fun p unmarked owned => by
          have none : completing p (voidItems (s.handle i) s.buffer.items) = [] ∧
              withoutCompleting p (voidItems (s.handle i) s.buffer.items) = voidItems (s.handle i) s.buffer.items :=
            completing_of_no_markers p (by rw [voidItems_markers]; exact unmarked)
          have here : (s.revoke i preemptor).buffer.items = voidItems (s.handle i) s.buffer.items := by
            rw [first.items, owned i List.mem_cons_self w hw, none.2]; simp
          rw [later.items p
              (by rw [Buffer.markers, here, voidItems_markers]; exact unmarked)
              (fun j m v hv => owned j (List.mem_cons_of_mem _ m) v (by rw [← kept j m]; exact hv)),
            handles, here, List.map_cons, voidItemsAmong_cons]
        voided := by rw [later.voided, first.voided, handles, count, BitVec.ofNat_add, BitVec.add_assoc]
        slots := fun j m v passed' hv => by
          rcases List.mem_cons.mp m with rfl | m
          · have unique : v = w ∧ passed' = passed := by
              rcases revocable with ⟨a, b⟩ | a <;> rcases hv with ⟨c, d⟩ | c <;> rw [a] at c <;> cases c <;> simp_all
            obtain ⟨rfl, rfl⟩ := unique
            rw [later.others j fresh, first.slot]
          · rw [later.slots j m v passed' (by rw [kept j m]; exact hv), kept j m, left j m]
        others := fun j m => by
          obtain ⟨ne, m⟩ := not_or.mp (fun h => m (List.mem_cons.mpr h))
          rw [later.others j m, first.others j ne]
        engine := by
          rw [later.engine, handles, count, first.engine]
          by_cases a : s.leaving i = 0 <;>
            by_cases b : (s.revoke i preemptor).buffer.entries.countP (Entry.leavesAmong (l.map s.handle)) = 0 <;>
            simp [a, b]
        ports := fun q other => by
          rw [later.ports q fun j m v hv => other j (List.mem_cons_of_mem _ m) v (by rw [← kept j m]; exact hv),
            first.ports q (other i List.mem_cons_self w hw).symm]
        rest := (congrArg (fun t : State => { t with
          table := s.table, engine := s.engine, ports := s.ports
          buffer := { t.buffer with items := s.buffer.items, voided := s.buffer.voided } }) later.rest).trans first.rest }

end Sys2Proof.Machine
end

section
/-! SUPPORT. Grants: which slot is granted, what a preempting grant leaves, and the ways a REQUEST and the evaluation of a
waiting request can end (R41, R45 to R48, R54 to R56). -/

namespace Sys2Proof.Machine

open Sys2Proof.Claims

/-! ### Reading the table -/

theorem Slot.isFree_iff (sl : Slot) : sl.isFree = true ↔ sl.state = .free := by
  unfold Slot.isFree
  exact beq_iff_eq

theorem lowestFree_eq_some_iff (s : State) (i : SlotNo) :
    s.lowestFree = some i ↔ (s.slot i).state = .free ∧ ∀ j, j < i → (s.slot j).state ≠ .free := by
  unfold State.lowestFree allSlots
  rw [List.find?_eq_some_iff_getElem]
  simp only [Slot.isFree_iff, List.getElem_finRange, List.length_finRange, Bool.not_eq_true', Bool.eq_false_iff, ne_eq]
  refine and_congr_right fun _ => ⟨?_, fun h => ⟨i.val, i.isLt, rfl, fun j hj => h _ hj⟩⟩
  rintro ⟨n, hn, rfl, h⟩ j hj
  exact h j.val hj

theorem lowestFree_isSome_iff (s : State) : s.lowestFree.isSome = true ↔ ∃ i, (s.slot i).state = .free := by
  unfold State.lowestFree allSlots
  simp [Slot.isFree_iff]

theorem mem_conflictSet (s : State) (p : Port) (r : LeaseRequest) (i : SlotNo) : i ∈ s.conflictSet p r ↔
    ∃ w, (s.slot i).live = some w ∧ w.owner ≠ p ∧ w.layer = r.layer ∧ regionsOverlap w.region r.region = true := by
  unfold State.conflictSet Slot.conflicts
  rw [List.mem_filter]
  simp only [allSlots, List.mem_finRange, true_and, Option.any_eq_true, Bool.and_eq_true, bne_iff_ne, beq_iff_eq, and_assoc]

theorem conflictSet_sorted (s : State) (p : Port) (r : LeaseRequest) : (s.conflictSet p r).Pairwise (· < ·) :=
  (List.pairwise_lt_finRange 32).filter _

theorem conflictSet_live {s : State} {p : Port} {r : LeaseRequest} {i : SlotNo} (m : i ∈ s.conflictSet p r) :
    (s.slot i).live.isSome = true := by
  obtain ⟨w, hw, -⟩ := (mem_conflictSet s p r i).mp m
  rw [hw]; rfl

theorem Slot.live_of_free {sl : Slot} (h : sl.state = .free) : sl.live = none := by rw [Slot.live, h]

/-! ### A preempting grant (R47, R48) -/

/-- The state once the windows of a request's conflict set are revoked for it (R47). -/
def State.preempted (s : State) (p : Port) (r : LeaseRequest) : State := s.revokeAll (s.conflictSet p r) (some p)

theorem preempted_spec (s : State) (p : Port) (r : LeaseRequest) : Revocations s (s.preempted p r) (s.conflictSet p r) :=
  revokeAll_spec (conflictSet_sorted s p r).nodup (fun _ => conflictSet_live) (some p)

section Revoked

variable {s t : State} {l : List SlotNo} (r : Revocations s t l) (was : ∀ i ∈ l, (s.slot i).live.isSome = true)
include r was

/-- Each revoked slot keeps its generation and is neither HELD nor DRAINING. -/
theorem Revocations.slot_revoked {i : SlotNo} (m : i ∈ l) :
    (t.slot i).live = none ∧ (t.slot i).generation = (s.slot i).generation := by
  obtain ⟨w, hw⟩ := Option.isSome_iff_exists.mp (was i m)
  obtain ⟨passed, revocable⟩ := (Slot.live_iff _ w).mp hw
  rw [r.slots i m w passed revocable]
  exact ⟨Slot.revokedTo_live _ _ _ _, rfl⟩

theorem Revocations.generation (i : SlotNo) : (t.slot i).generation = (s.slot i).generation := by
  by_cases m : i ∈ l
  · exact (r.slot_revoked was m).2
  · rw [r.others i m]

/-- A window that is HELD or DRAINING after revocations was so before. -/
theorem Revocations.live {i : SlotNo} {w : Window} (h : (t.slot i).live = some w) : i ∉ l ∧ (s.slot i).live = some w := by
  have m : i ∉ l := fun m => by rw [(r.slot_revoked was m).1] at h; cases h
  exact ⟨m, r.others i m ▸ h⟩

/-- A slot that is FREE stays so. -/
theorem Revocations.free {i : SlotNo} (h : (s.slot i).state = .free) : (t.slot i).state = .free := by
  have m : i ∉ l := fun m => by
    have := was i m
    rw [Slot.live_of_free h] at this
    cases this
  rw [r.others i m, h]

end Revoked

/-- Revocations reach the engine through the signal of a departure alone (R125). -/
theorem Revocations.engine_kept {s t : State} {l : List SlotNo} (r : Revocations s t l) :
    { t.engine with retryPost := s.engine.retryPost } = s.engine := by
  rw [r.engine]
  split <;> rfl

/-- Of the entries under the revoked handles, WRITING and VOID ones alone are left (R127). -/
theorem Revocations.entry_state {s t : State} {l : List SlotNo} (r : Revocations s t l) {e : Entry} (m : e ∈ t.buffer.entries)
    {i : SlotNo} (mi : i ∈ l) (handle : e.handle = s.handle i) : e.state = .writing ∨ e.state = .voided := by
  rw [r.entries, voidItemsAmong_entries] at m
  obtain ⟨old, stays, rfl⟩ := List.mem_map.mp m
  refine voidAmong_state (by simpa using (List.mem_filter.mp stays).2) ?_
  rw [handle]
  exact List.mem_map_of_mem mi

/-- Preemption leaves the request without conflicts (R47). -/
theorem preempted_conflictSet (s : State) (p : Port) (r : LeaseRequest) : (s.preempted p r).conflictSet p r = [] := by
  refine List.eq_nil_iff_forall_not_mem.mpr fun i m => ?_
  obtain ⟨w, hw, conflict⟩ := (mem_conflictSet _ p r i).mp m
  obtain ⟨out, old⟩ := (preempted_spec s p r).live (fun _ => conflictSet_live) hw
  exact out ((mem_conflictSet s p r i).mpr ⟨w, old, conflict⟩)

/-- A grant that steps 5 to 7 of R41 allow: preemption first, then the lowest-numbered slot then FREE (R47, R48). -/
theorem decideGrant_granted {s : State} {p : Port} {r : LeaseRequest} {l : List SlotNo}
    (h : s.decideGrant p r = .granted l) : l = s.conflictSet p r ∧ ∃ i, (s.slot i).state = .free := by
  unfold State.decideGrant at h
  split at h
  · cases h
  · next some =>
    have free := (lowestFree_isSome_iff s).mp (by simpa [Option.isSome_iff_ne_none] using some)
    split at h
    · next empty => cases h; exact ⟨(List.isEmpty_iff.mp empty).symm, free⟩
    · split at h <;> cases h
      exact ⟨rfl, free⟩

/-- Where a slot is FREE a grant always finds one, also after its revocations (R48). -/
theorem performGrant_eq {s : State} (p : Port) (r : LeaseRequest) (free : ∃ i, (s.slot i).state = .free) :
    ∃ i, ((s.preempted p r).slot i).state = .free ∧ (∀ j, j < i → ((s.preempted p r).slot j).state ≠ .free) ∧
      s.performGrant p r (s.conflictSet p r) = ((s.preempted p r).onSlot i (Slot.grant p r),
        some ⟨i, ((s.preempted p r).slot i).generation + 1⟩) := by
  obtain ⟨k, hk⟩ := free
  have stays := (preempted_spec s p r).free (fun _ => conflictSet_live) hk
  obtain ⟨i, lowest⟩ := Option.isSome_iff_exists.mp ((lowestFree_isSome_iff (s.preempted p r)).mpr ⟨k, stays⟩)
  obtain ⟨hi, least⟩ := (lowestFree_eq_some_iff _ i).mp lowest
  refine ⟨i, hi, least, ?_⟩
  have found : (List.foldl (fun t j => t.revoke j (some p)) s (s.conflictSet p r)).lowestFree = some i := lowest
  unfold State.performGrant
  simp only [found]
  rfl

/-! ### The ways a REQUEST and an evaluation end -/

/-- A REQUEST from an IDLE lease slot with room in its quota, where a slot is FREE and the conflicts can be cleared (R47, R48). -/
theorem request_granted {s : State} {p : Port} {r : LeaseRequest} (run : s.globalState = .run)
    (idle : (s.leaseSlots.get p).waiting = none)
    (staged : stagedRequest s.surfaceWidth s.surfaceHeight (s.ports.get p).lease = some r)
    (quota : s.windowCount p < s.quotaOf p) (decided : s.decideGrant p r = .granted (s.conflictSet p r)) :
    ∃ i, ((s.preempted p r).slot i).state = .free ∧ (∀ j, j < i → ((s.preempted p r).slot j).state ≠ .free) ∧
      s.request p =
        let u := ((s.preempted p r).onSlot i (Slot.grant p r)).record p .request .granted
          (some ⟨i, ((s.preempted p r).slot i).generation + 1⟩)
        if (s.conflictSet p r).isEmpty then u else u.evaluateWaitList := by
  obtain ⟨i, hi, least, granted⟩ := performGrant_eq p r (decideGrant_granted decided).2
  refine ⟨i, hi, least, ?_⟩
  unfold State.request
  simp only [run, idle, staged, decided, granted, Nat.not_le.mpr quota]
  simp

/-- A REQUEST is refused, parks, or is granted, each where R41 lets it (R41 to R48). -/
theorem request_cases (s : State) (p : Port) :
    (∃ result, s.request p = s.record p .request result none) ∨
    ∃ r, s.globalState = .run ∧ (s.leaseSlots.get p).waiting = none ∧
      stagedRequest s.surfaceWidth s.surfaceHeight (s.ports.get p).lease = some r ∧ s.windowCount p < s.quotaOf p ∧
      (s.request p = s.park p r ∨ s.decideGrant p r = .granted (s.conflictSet p r)) := by
  unfold State.request
  split
  · exact .inl ⟨_, rfl⟩
  next run =>
  split
  · exact .inl ⟨_, rfl⟩
  next idle =>
  split
  · exact .inl ⟨_, rfl⟩
  next r staged =>
  split
  · exact .inl ⟨_, rfl⟩
  next quota =>
  have checked {q : Prop} (h : q) : s.globalState = .run ∧ (s.leaseSlots.get p).waiting = none ∧
      stagedRequest s.surfaceWidth s.surfaceHeight (s.ports.get p).lease = some r ∧ s.windowCount p < s.quotaOf p ∧ q :=
    ⟨by simpa using run, by simpa using idle, staged, Nat.lt_of_not_le quota, h⟩
  split
  · split
    · exact .inr ⟨r, checked (.inl rfl)⟩
    · exact .inl ⟨_, rfl⟩
  · split
    · exact .inr ⟨r, checked (.inl rfl)⟩
    · exact .inl ⟨_, rfl⟩
  · next l decided =>
    obtain ⟨rfl, -⟩ := decideGrant_granted decided
    exact .inr ⟨r, checked (.inr decided)⟩

/-- The grant of slot `i` to port `p`'s waiting request, once preemption is done: the request leaves the wait list and the port is
told (R55). -/
def State.grantWaiting (s : State) (p : Port) (r : LeaseRequest) (i : SlotNo) : State :=
  (((s.onSlot i (Slot.grant p r)).unwait p).record p .request .granted (some ⟨i, (s.slot i).generation + 1⟩)).post p
    (.leaseGranted ⟨i, (s.slot i).generation + 1⟩)

section GrantWaiting

variable (s : State) (p : Port) (r : LeaseRequest) (i : SlotNo)

theorem grantWaiting_slot (j : SlotNo) :
    (s.grantWaiting p r i).slot j = if j = i then (s.slot i).grant p r else s.slot j := State.onSlot_slot s i j _

@[simp] theorem grantWaiting_buffer : (s.grantWaiting p r i).buffer = s.buffer := rfl

@[simp] theorem grantWaiting_engine : (s.grantWaiting p r i).engine = s.engine := rfl

@[simp] theorem grantWaiting_waitList : (s.grantWaiting p r i).waitList = s.waitList.erase p := rfl

theorem grantWaiting_leaseSlot {q : Port} (ne : q ≠ p) : (s.grantWaiting p r i).leaseSlots.get q = s.leaseSlots.get q := by
  unfold State.grantWaiting
  rw [State.post, State.onPort_leaseSlots, State.record, State.onLease_get_of_ne _ _ ne, State.unwait,
    State.onLease_get_of_ne _ _ ne]
  rfl

theorem grantWaiting_port {q : Port} (ne : q ≠ p) : (s.grantWaiting p r i).ports.get q = s.ports.get q :=
  State.onPort_get_of_ne _ _ ne

end GrantWaiting

/-- The evaluation of a waiting request changes nothing, or grants it (R55, R56). -/
theorem evaluateOne_cases (s : State) (p : Port) : (s.evaluateOne p).1 = s ∨
    ∃ w i, (s.leaseSlots.get p).waiting = some w ∧ ((s.preempted p w.request).slot i).state = .free ∧
      (s.evaluateOne p).1 = (s.preempted p w.request).grantWaiting p w.request i := by
  unfold State.evaluateOne
  split
  · exact .inl rfl
  · next w waiting =>
    split
    · exact .inl rfl
    · exact .inl rfl
    · next l decided =>
      obtain ⟨rfl, free⟩ := decideGrant_granted decided
      obtain ⟨i, hi, -, granted⟩ := performGrant_eq p w.request free
      rw [granted]
      exact .inr ⟨w, i, waiting, hi, rfl⟩

/-- What the evaluation of each waiting request keeps, the evaluation of the wait list keeps (R54). -/
theorem evaluateWaitList_keeps {P : State → Prop} (one : ∀ s p, P s → P (s.evaluateOne p).1) {s : State} (h : P s) :
    P s.evaluateWaitList := by
  have pass (t : State) (k : P t) : P t.evaluationPass.1 := by
    unfold State.evaluationPass
    generalize t.waitList = ps
    suffices key : ∀ acc : State × Bool, P acc.1 → P (ps.foldl (fun (acc : State × Bool) p =>
        ((acc.1.evaluateOne p).1, acc.2 || (acc.1.evaluateOne p).2)) acc).1 from key (t, false) k
    induction ps with
    | nil => exact fun _ k => k
    | cons p rest ih => exact fun acc k => ih _ (one _ p k)
  suffices passes : ∀ n t, P t → P (State.evaluationPasses n t) from passes _ s h
  intro n
  induction n with
  | zero => exact fun _ k => k
  | succ n ih =>
    intro t k
    unfold State.evaluationPasses
    split
    · exact ih _ (pass t k)
    · exact pass t k

/-! ### The obligations -/

/-- Settles O16: without conflicts no window is revoked, and the slot granted is the lowest FREE one as the table stands. -/
theorem requestGranted : Obligations.RequestGranted := by
  intro p r i s taken run idle staged quota free least conflicts
  have lowest : s.lowestFree = some i := (lowestFree_eq_some_iff s i).mpr ⟨free, least⟩
  have decided : s.decideGrant p r = .granted (s.conflictSet p r) := by simp [State.decideGrant, lowest, conflicts]
  have nothing : s.preempted p r = s := by rw [State.preempted, conflicts]; rfl
  obtain ⟨k, hk, leastk, granted⟩ := request_granted run idle staged quota decided
  rw [nothing] at hk leastk granted
  have same : k = i := Option.some.inj (((lowestFree_eq_some_iff s k).mpr ⟨hk, leastk⟩).symm.trans lowest)
  subst same
  have event : exec (.request p) s = .next (s.request p) := congrArg Host.Outcome.next (writeAccess_of_takes taken _)
  rw [event, granted, conflicts]
  rfl

theorem conflictSetOfARequest : Claims.ConflictSetOfARequest := by
  intro s p r
  refine ⟨conflictSet_sorted s p r, fun i => (mem_conflictSet s p r i).trans (exists_congr fun w => ?_)⟩
  have live : (s.slot i).live = some w ↔ (s.slot i).state = .held w ∨ ∃ passed, (s.slot i).state = .draining w passed := by
    unfold Slot.live
    cases (s.slot i).state <;> simp
  rw [live]
  simp [regionsOverlap, and_assoc]

theorem preemptingRequest : Claims.PreemptingRequest := by
  intro p r s taken run idle staged quota free conflicts preempt lower
  have live : ∀ j ∈ s.conflictSet p r, (s.slot j).live.isSome = true := fun _ => conflictSet_live
  have decided : s.decideGrant p r = .granted (s.conflictSet p r) := by
    have slot := (lowestFree_isSome_iff s).mpr free
    have clear : s.clearable p r (s.conflictSet p r) = true := by
      simp only [State.clearable, preempt, Bool.true_and, List.all_eq_true, Option.any_eq_true, decide_eq_true_eq]
      intro j m
      obtain ⟨w, hw⟩ := Option.isSome_iff_exists.mp (live j m)
      exact ⟨w, hw, lower j m w hw⟩
    simp [State.decideGrant, Option.isNone_iff_eq_none, Option.isSome_iff_ne_none.mp slot, conflicts, clear]
  obtain ⟨i, hi, least, granted⟩ := request_granted run idle staged quota decided
  have rs := preempted_spec s p r
  have generation := rs.generation live i
  rw [generation] at granted
  let u : State := ((s.preempted p r).onSlot i (Slot.grant p r)).record p .request .granted
    (some ⟨i, (s.slot i).generation + 1⟩)
  have slot (j : SlotNo) (ne : j ≠ i) : u.slot j = (s.preempted p r).slot j := State.onSlot_slot_of_ne _ _ ne
  refine ⟨u, i, ?_, hi, least, ?_, fun j m ne => ?_, fun j m ne => ?_, fun j m e me handle => ?_, fun q others => ?_, ?_⟩
  · have event : exec (.request p) s = .next (s.request p) := congrArg Host.Outcome.next (writeAccess_of_takes taken _)
    rw [event, granted]
    simp [conflicts, u]
  · refine congrArg (fun t : State => t.record p .request .granted (some ⟨i, (s.slot i).generation + 1⟩))
      (State.onSlot_congr ?_)
    rw [Slot.grant, generation]
  · rw [slot j ne]; exact rs.slot_revoked live m
  · rw [slot j ne]; exact rs.others j m
  · exact rs.entry_state me m handle
  · exact rs.ports q others
  · refine Eq.trans (congrArg (fun e : Engine => { s.preempted p r with
      table := s.table, leaseSlots := s.leaseSlots, ports := s.ports, engine := e
      buffer := { (s.preempted p r).buffer with items := s.buffer.items, voided := s.buffer.voided } }) rs.engine_kept) ?_
    exact congrArg (fun t : State => { t with leaseSlots := s.leaseSlots }) rs.rest

/-- Settles O17: the revocations of the conflict set, one by one, and the grant after them. -/
theorem requestPreempts : Obligations.RequestPreempts := ⟨preemptingRequest, conflictSetOfARequest⟩

end Sys2Proof.Machine
end

section
/-! SUPPORT. What a departure, a frame start, RELEASE and SET_VISIBLE do, and what the display and fetch lists hold (R23, R28,
R29, R33, R34, R50, R51, R125, R148, R149). -/

namespace Sys2Proof.Machine

open Sys2Proof.Claims

/-! ### A departure (R28, R125) -/

/-- The state after a departure, before the evaluation of the wait list that a freeing causes. -/
def State.afterLeave (s : State) (e : Entry) : State :=
  (((s.onSlot e.handle.slot Slot.leave).freeingCheck e.handle.slot).signalDeparture).completeMarkers e.port

theorem departed_eq (s : State) (e : Entry) : s.departed e =
    if (s.slot e.handle.slot).leave.mayFree then (s.afterLeave e).evaluateWaitList else s.afterLeave e := by
  have slot : (s.onSlot e.handle.slot Slot.leave).slot e.handle.slot = (s.slot e.handle.slot).leave :=
    State.onSlot_slot_self s _ _
  unfold State.departed
  simp only [slot]
  rfl

/-- What a departure leaves before the evaluation of the wait list. -/
theorem afterLeave_spec (s : State) (e : Entry) :
    (∀ j, (s.afterLeave e).slot j = if j = e.handle.slot then (s.slot e.handle.slot).leave.freed else s.slot j) ∧
    (s.afterLeave e).engine = signalled s.engine ∧
    (s.afterLeave e).buffer.items = withoutCompleting e.port s.buffer.items ∧
    (∀ p, (s.afterLeave e).ports.get p = fenced (if p = e.port then completing e.port s.buffer.items else [])
      (((s.slot e.handle.slot).leave.freedNotices e.handle.slot p).foldl (fun hp n => hp.offer n) (s.ports.get p))) ∧
    { s.afterLeave e with
      table := s.table, engine := s.engine, ports := s.ports
      buffer := { (s.afterLeave e).buffer with items := s.buffer.items } } = s := by
  obtain ⟨c, check⟩ : ∃ c, c = (s.onSlot e.handle.slot Slot.leave).freeingCheck e.handle.slot := ⟨_, rfl⟩
  obtain ⟨slots, ports, rest⟩ := freeingCheck_spec (s.onSlot e.handle.slot Slot.leave) e.handle.slot
  rw [← check] at slots ports rest
  have unchanged : { c with table := s.table, ports := s.ports } = s := congrArg (fun t : State => { t with table := s.table }) rest
  have engine : c.engine = s.engine := by
    have e := congrArg State.engine unchanged
    exact e
  have buffer : c.buffer = s.buffer := by
    have e := congrArg State.buffer unchanged
    exact e
  have after : s.afterLeave e = ((c.onEngine signalled).onBuffer fun b =>
      { b with items := withoutCompleting e.port b.items }).onPort e.port (fenced (completing e.port s.buffer.items)) := by
    rw [State.afterLeave, ← check, signalDeparture_eq, completeMarkers_eq, State.onEngine_buffer, buffer]
  rw [after]
  refine ⟨fun j => ?_, congrArg signalled engine, congrArg (fun b : Buffer => withoutCompleting e.port b.items) buffer,
    fun p => ?_, ?_⟩
  · have table : (((c.onEngine signalled).onBuffer fun b => { b with items := withoutCompleting e.port b.items }).onPort e.port
        (fenced (completing e.port s.buffer.items))).table = c.table := rfl
    rw [State.slot_of_table table, slots, State.onSlot_slot_self, State.onSlot_slot]
    split <;> rfl
  · rw [State.onSlot_slot_self] at ports
    by_cases h : p = e.port
    · subst h
      rw [State.onPort_get_self, if_pos rfl]
      exact congrArg _ (ports e.port)
    · rw [State.onPort_get_of_ne _ _ h, if_neg h]
      exact ports p
  · exact congrArg (fun t : State => { t with engine := s.engine, buffer := { t.buffer with items := s.buffer.items } })
      unchanged

/-- Settles O43: the leave message with its freeing check, the engine's signal and the markers of the entry's port. -/
theorem departureEffects : Obligations.DepartureEffects := by
  intro s e
  obtain ⟨slots, engine, items, ports, rest⟩ := afterLeave_spec s e
  have may := Slot.mayFree_iff (s.slot e.handle.slot).leave
  refine ⟨s.afterLeave e, fun frees => ?_, fun stays => ?_, fun frees => ?_, fun stays => ?_, fun j ne => ?_, engine, items,
    fun p => ?_, rest⟩
  · rw [departed_eq, if_pos (may.mpr frees)]
  · rw [departed_eq, if_neg fun h => stays (may.mp h)]
  · rw [slots, if_pos rfl, Slot.freed, if_pos (may.mpr frees)]; rfl
  · rw [slots, if_pos rfl, Slot.freed, if_neg fun h => stays (may.mp h)]; rfl
  · rw [slots, if_neg ne]
  · rw [ports]
    refine congrArg _ ?_
    unfold Slot.freedNotices Slot.mayFree Slot.leave
    cases (s.slot e.handle.slot).state with
    | draining w passed =>
      have flip : (w.owner = p) = (p = w.owner) := propext eq_comm
      cases passed with
      | false => simp
      | true =>
        by_cases left : (s.slot e.handle.slot).outstanding - 1 = 0 <;> by_cases owner : p = w.owner <;>
          simp [left, owner, flip]
    | free | held | revoked => rfl

/-! ### The freeings of a frame start (R29, R34) -/

/-- The freeing checks of several slots, in turn. -/
theorem freeingChecks_spec {l : List SlotNo} (distinct : l.Nodup) (s : State) :
    (∀ j, (l.foldl State.freeingCheck s).slot j = if j ∈ l then (s.slot j).freed else s.slot j) ∧
    (∀ p, (l.foldl State.freeingCheck s).ports.get p =
      (l.flatMap fun i => (s.slot i).freedNotices i p).foldl (fun hp n => hp.offer n) (s.ports.get p)) ∧
    { l.foldl State.freeingCheck s with table := s.table, ports := s.ports } = s := by
  induction l generalizing s with
  | nil => exact ⟨fun _ => rfl, fun _ => rfl, rfl⟩
  | cons i l ih =>
    obtain ⟨fresh, distinct⟩ := List.nodup_cons.mp distinct
    obtain ⟨slots, ports, rest⟩ := freeingCheck_spec s i
    obtain ⟨slots', ports', rest'⟩ := ih distinct (s.freeingCheck i)
    have other (j : SlotNo) (m : j ∈ l) : (s.freeingCheck i).slot j = s.slot j := by
      rw [slots, if_neg fun e : j = i => fresh (e ▸ m)]
    refine ⟨fun j => ?_, fun p => ?_, ?_⟩
    · rw [List.foldl_cons, slots']
      by_cases m : j ∈ l
      · simp [m, other j m]
      · by_cases e : j = i <;> simp [m, e, slots, fresh]
    · rw [List.foldl_cons, ports', ports, List.flatMap_cons, List.foldl_append]
      congr 1
      exact List.flatMap_congr fun j m => by rw [other j m]
    · exact (congrArg (fun t : State => { t with table := s.table, ports := s.ports }) rest').trans rest

/-- The table with every DRAINING and REVOKED slot's frame_passed yes (R34). -/
def State.framePassed (s : State) : State := { s with table := Vector.ofFn fun i => s.table[i].passFrame }

theorem framePassed_slot (s : State) (i : SlotNo) : s.framePassed.slot i = (s.slot i).passFrame := by
  simp [State.slot, State.framePassed]

theorem passFrame_eq (s : State) : s.passFrame = if ∃ i, (s.slot i).passFrame.mayFree = true
    then (allSlots.foldl State.freeingCheck s.framePassed).evaluateWaitList
    else allSlots.foldl State.freeingCheck s.framePassed := by
  have any : (allSlots.any fun i => (s.framePassed.slot i).mayFree) = true ↔ ∃ i, (s.slot i).passFrame.mayFree = true := by
    simp [allSlots, framePassed_slot]
  rw [← if_congr any rfl rfl]
  rfl

/-- A slot that frees at a frame start is DRAINING or REVOKED with nothing outstanding (R29, R34). -/
theorem Slot.passFrame_mayFree_iff (sl : Slot) : sl.passFrame.mayFree = true ↔
    sl.outstanding = 0 ∧ ∃ w b, sl.state = .draining w b ∨ sl.state = .revoked w b := by
  unfold Slot.passFrame Slot.mayFree
  cases h : sl.state <;> simp [h]

theorem allSlots_nodup : allSlots.Nodup := List.nodup_finRange 32

theorem mem_allSlots (i : SlotNo) : i ∈ allSlots := List.mem_finRange i

/-- The WINDOW_FREED of a frame start to one port: of a DRAINING window of it with nothing outstanding (R29, R34). -/
def Slot.drainedNotice (i : SlotNo) (sl : Slot) (p : Port) : Option Notice :=
  match sl.state with
  | .draining w _ => if sl.outstanding = 0 ∧ w.owner = p then some (.windowFreed ⟨i, sl.generation⟩) else none
  | _ => none

theorem passFrame_freedNotices (i : SlotNo) (sl : Slot) (p : Port) :
    sl.passFrame.freedNotices i p = (sl.drainedNotice i p).toList := by
  unfold Slot.freedNotices Slot.mayFree Slot.passFrame Slot.drainedNotice
  cases state : sl.state with
  | draining w passed => by_cases left : sl.outstanding = 0 <;> by_cases owner : w.owner = p <;> simp [left, owner]
  | free | held | revoked => simp [state]

/-- Settles O46: the freeing checks in slot order, after every frame_passed is set. -/
theorem framePassFrees : Obligations.FramePassFrees := by
  intro s
  have checks := freeingChecks_spec allSlots_nodup s.framePassed
  have passed := passFrame_eq s
  have slot (i : SlotNo) : (allSlots.foldl State.freeingCheck s.framePassed).slot i = (s.slot i).passFrame.freed := by
    rw [checks.1, if_pos (mem_allSlots i), framePassed_slot]
  generalize allSlots.foldl State.freeingCheck s.framePassed = u at checks passed slot
  obtain ⟨-, ports, rest⟩ := checks
  obtain ⟨table, same⟩ : ∃ table, s.framePassed = { s with table := table } := ⟨_, rfl⟩
  rw [same] at ports rest
  refine ⟨u, fun some => ?_, fun none => ?_, fun i frees => ?_, fun i stays => ?_, fun p => ?_,
    congrArg (fun t : State => { t with table := s.table }) rest⟩
  · obtain ⟨i, frees⟩ := some
    rw [passed, if_pos ⟨i, (Slot.passFrame_mayFree_iff _).mpr frees⟩]
  · rw [passed, if_neg fun ⟨i, h⟩ => none i ((Slot.passFrame_mayFree_iff _).mp h)]
  · rw [slot, Slot.freed, if_pos ((Slot.passFrame_mayFree_iff _).mpr frees)]
    obtain ⟨empty, w, b, state | state⟩ := frees <;> simp [Slot.passFrame, state, empty]
  · rw [slot, Slot.freed_of_not fun h => stays ((Slot.passFrame_mayFree_iff _).mp h)]
    unfold Slot.passFrame
    cases s.slot i with
    | mk state generation outstanding => cases state <;> rfl
  · rw [ports, List.filterMap_eq_flatMap_toList]
    refine congrArg (fun ns : List Notice => ns.foldl (fun hp n => hp.offer n) (s.ports.get p)) (List.flatMap_congr fun i _ => ?_)
    rw [← same, framePassed_slot, passFrame_freedNotices]
    rfl

/-! ### RELEASE and SET_VISIBLE (R50, R51) -/

/-- The first four checks of RELEASE and SET_VISIBLE in order, each with whether it fails (R50). -/
def State.leaseChecks (s : State) (p : Port) (h : Handle) : List (Bool × LeaseResult) :=
  [(s.globalState != .run, .notReady), ((s.slot h.slot).generation != h.generation, .stale),
    ((s.slot h.slot).window.map Window.owner != some p, .notOwner), ((s.slot h.slot).heldWindow.isNone, .notHeld)]

theorem checkLease_of_failure {s : State} {p : Port} {h : Handle} {code : LeaseResult}
    (fails : firstFailure (s.leaseChecks p h) = some code) : s.checkLease p h = .error code := by
  unfold State.checkLease
  unfold State.leaseChecks at fails
  cases run : s.globalState != .run with
  | true => simpa [firstFailure, run] using fails
  | false =>
    cases stale : (s.slot h.slot).generation != h.generation with
    | true => simpa [firstFailure, run, stale] using fails
    | false =>
      cases state : (s.slot h.slot).state with
      | free => simpa [firstFailure, run, stale, Slot.window, state] using fails
      | held w =>
        by_cases owner : w.owner = p
        · simp [firstFailure, run, stale, Slot.window, Slot.heldWindow, state, owner] at fails
        · simpa [firstFailure, run, stale, Slot.window, state, owner] using fails
      | draining w _ | revoked w _ =>
        by_cases owner : w.owner = p <;>
          simpa [firstFailure, run, stale, Slot.window, Slot.heldWindow, state, owner] using fails

theorem checkLease_of_passed {s : State} {p : Port} {h : Handle} (passes : firstFailure (s.leaseChecks p h) = none) :
    ∃ w, (s.slot h.slot).state = .held w ∧ s.checkLease p h = .ok w := by
  unfold State.checkLease
  unfold State.leaseChecks at passes
  cases run : s.globalState != .run with
  | true => simp [firstFailure, run] at passes
  | false =>
    cases stale : (s.slot h.slot).generation != h.generation with
    | true => simp [firstFailure, run, stale] at passes
    | false =>
      cases state : (s.slot h.slot).state with
      | held w =>
        by_cases owner : w.owner = p
        · exact ⟨w, rfl, by simp [owner]⟩
        · simp [firstFailure, run, stale, Slot.window, state, owner] at passes
      | free => simp [firstFailure, run, stale, Slot.window, state] at passes
      | draining w _ | revoked w _ =>
        by_cases owner : w.owner = p <;>
          simp [firstFailure, run, stale, Slot.window, Slot.heldWindow, state, owner] at passes

/-- Settles O19: the checks of the model are those of R50, and each way through them is one update and the record. -/
theorem releaseAndSetVisible : Obligations.ReleaseAndSetVisible := by
  intro p h v s taken
  have release : exec (.release p h) s = .next (s.release p h) := congrArg Host.Outcome.next (writeAccess_of_takes taken _)
  have setVisible : exec (.setVisible p h v) s = .next (s.setVisible p h v) :=
    congrArg Host.Outcome.next (writeAccess_of_takes taken _)
  cases checked : firstFailure (s.leaseChecks p h) with
  | some code =>
    have fails := checkLease_of_failure checked
    unfold State.leaseChecks at checked
    simp only [checked, release, setVisible, State.release, State.setVisible, fails]
    exact ⟨rfl, rfl⟩
  | none =>
    obtain ⟨w, held, passes⟩ := checkLease_of_passed checked
    unfold State.leaseChecks at checked
    simp only [checked, release, setVisible, State.release, State.setVisible, passes]
    refine ⟨w, held, rfl, ?_⟩
    split <;> rfl

/-! ### The display and fetch lists (R33, R149) -/

theorem layersDown_sorted : layersDown.Pairwise fun a b => b < a := by decide

theorem mem_layersDown (layer : Layer) : layer ∈ layersDown := by revert layer; decide

theorem displayItem_eq_some_iff (s : State) (layer : Layer) (i : SlotNo) (d : DisplayItem) :
    s.displayItem layer i = some d ↔ ∃ w, (s.slot i).state = .held w ∧ w.rights.mayShow = true ∧ w.visible = true ∧
      w.layer = layer ∧ d = ⟨i, (s.slot i).generation, w.layer, w.region, w.key⟩ := by
  unfold State.displayItem Slot.heldWindow
  cases (s.slot i).state with
  | held w =>
    have flip (x : DisplayItem) : (x = d) = (d = x) := propext eq_comm
    simp [and_assoc, flip]
  | free | draining | revoked => simp

theorem mem_buildDisplayList (s : State) (d : DisplayItem) :
    d ∈ s.buildDisplayList ↔ ∃ layer i, s.displayItem layer i = some d := by
  simp [State.buildDisplayList, mem_layersDown, mem_allSlots]

/-- An item shows its slot and its layer. -/
theorem displayItem_slot {s : State} {layer : Layer} {i : SlotNo} {d : DisplayItem} (h : s.displayItem layer i = some d) :
    d.slot = i ∧ d.layer = layer := by
  obtain ⟨w, -, -, -, rfl, rfl⟩ := (displayItem_eq_some_iff s layer i d).mp h
  exact ⟨rfl, rfl⟩

theorem mem_fetchListOf (list : List DisplayItem) (w y : Nat) (b : LineBlock) : b ∈ fetchListOf list w y ↔
    b.column < w / 16 ∧ ∃ d ∈ list, d.layer = b.layer ∧ d.meets y b.column = true := by
  simp only [fetchListOf, List.mem_flatMap, List.mem_map, List.mem_filter, List.mem_range, List.any_eq_true,
    Bool.and_eq_true, beq_iff_eq]
  constructor
  · rintro ⟨layer, -, column, ⟨small, d, m, at_, meets⟩, rfl⟩
    exact ⟨small, d, m, at_, meets⟩
  · rintro ⟨small, d, m, at_, meets⟩
    exact ⟨b.layer, mem_layersDown _, b.column, ⟨small, d, m, at_, meets⟩, rfl⟩

/-- An item with a pixel across meets a block of a line exactly where it covers one of the block's pixels (R149). -/
theorem meets_iff {d : DisplayItem} (wide : 1 ≤ d.region.width) (y column : Nat) :
    d.meets y column = true ↔ ∃ x, x / 16 = column ∧ regionCovers d.region x y = true := by
  simp only [DisplayItem.meets, regionCovers, Bool.and_eq_true, decide_eq_true_eq]
  constructor
  · rintro ⟨⟨⟨above, below⟩, left⟩, right⟩
    exact ⟨max d.region.x (16 * column), by omega, by omega⟩
  · rintro ⟨x, rfl, covers⟩
    omega

/-- Settles O44: membership from the filters, and the order from the layers downward with the slots or columns upward. -/
theorem displayAndFetchLists : Obligations.DisplayAndFetchLists := by
  refine ⟨fun s d => ?_, fun s => ?_, fun list w y b wide => ?_, fun list w y => ?_⟩
  · simp only [mem_buildDisplayList, displayItem_eq_some_iff]
    constructor
    · rintro ⟨layer, i, w, held, shown, visible, -, rfl⟩
      exact ⟨w, held, shown, visible, rfl⟩
    · rintro ⟨w, held, shown, visible, e⟩
      exact ⟨w.layer, d.slot, w, held, shown, visible, rfl, e⟩
  · refine List.pairwise_flatMap.mpr ⟨fun layer _ => ?_, layersDown_sorted.imp fun {a b} below c mc d md => ?_⟩
    · refine List.pairwise_filterMap.mpr ((List.pairwise_lt_finRange 32).imp fun {i j} before c hc d hd => .inr ?_)
      obtain ⟨rfl, atc⟩ := displayItem_slot hc
      obtain ⟨rfl, atd⟩ := displayItem_slot hd
      exact ⟨atc.trans atd.symm, before⟩
    · obtain ⟨i, -, hc⟩ := List.mem_filterMap.mp mc
      obtain ⟨j, -, hd⟩ := List.mem_filterMap.mp md
      rw [(displayItem_slot hc).2, (displayItem_slot hd).2]
      exact .inl below
  · rw [mem_fetchListOf]
    exact and_congr_right fun _ => exists_congr fun d => and_congr_right fun m => and_congr_right fun _ =>
      meets_iff (wide d m) y b.column
  · refine List.pairwise_flatMap.mpr ⟨fun layer _ => ?_, layersDown_sorted.imp fun {a b} below c mc d md => ?_⟩
    · exact List.pairwise_map.mpr ((List.pairwise_lt_range.filter _).imp fun before => .inr ⟨rfl, before⟩)
    · obtain ⟨_, -, rfl⟩ := List.mem_map.mp mc
      obtain ⟨_, -, rfl⟩ := List.mem_map.mp md
      exact .inl below

/-! ### A frame start at the Composer (R148) -/

theorem frameStartDue_iff (s : State) : s.frameStartDue = true ↔ FrameDue s := by
  unfold State.frameStartDue FrameDue
  rw [Bool.and_eq_true]
  refine and_congr_right fun _ => ?_
  cases s.composer.position with
  | initial => simp
  | lead => simp
  | visible y =>
    simp only [Bool.and_eq_true, beq_iff_eq, reduceCtorEq, false_and, false_or, GeneratorPosition.visible.injEq]
    omega
  | trailing k =>
    simp only [beq_iff_eq, reduceCtorEq, false_and, or_false, false_or, GeneratorPosition.trailing.injEq]
    omega

theorem postAll_eq (s : State) (n : Notice) : s.postAll n = { s with
    ports := ⟨s.ports.p0.offer n, s.ports.p1.offer n, s.ports.p2.offer n, s.ports.p3.offer n⟩ } := by
  simp only [State.postAll, Port.all, List.foldl_cons, List.foldl_nil, State.post, State.onPort, PerPort.set, PerPort.get]

/-- What the Composer's work at a frame start leaves of it (R148). -/
theorem startFrame_eq (c : Composer) (w h : Nat) (list : List DisplayItem) : c.startFrame w h list = { c with
    position := .lead, sentLine := [], frameNumber := c.frameNumber + 1, frames := c.frames + 1
    displayList := list, underrunReported := false, fetchLine := some 0, fetchList := fetchListOf list w 0
    buffer0 := ⟨some 0, []⟩
    buffer1 := if c.buffer1.serves = some (h - 1) then ⟨none, []⟩ else c.buffer1 } := (rfl)

/-- Settles O45: the Composer takes its frame from the state as it stood, and the Lease Manager's work leaves the Composer. -/
theorem frameStartOutcome : Obligations.FrameStartOutcome := by
  intro s running
  have event : exec .frameStart s = .next s.frameStart := congrArg Host.Outcome.next (ownEvent_of_running running _)
  rw [event]
  unfold State.frameStart
  refine ⟨fun due => ⟨s.passFrame, rfl, ?_⟩, fun early => by rw [if_neg fun h => early ((frameStartDue_iff s).mp h)]⟩
  rw [if_pos ((frameStartDue_iff s).mpr due), State.onComposer, (passFrame_frame s).composer, postAll_eq, startFrame_eq]

end Sys2Proof.Machine
end

section
/-! SUPPORT. A detach: the state before its evaluation of the wait list, and what that evaluation leaves of the port
(R25, R63, R134, R174). -/

namespace Sys2Proof.Machine

open Sys2Proof.Claims

/-! ### The detach up to its evaluation of the wait list -/

/-- Whether a slot holds a HELD or DRAINING window of port `p`. -/
def State.owns (s : State) (p : Port) (i : SlotNo) : Bool := (s.slot i).live.any fun w => w.owner == p

/-- The slots of port `p`'s HELD and DRAINING windows, lowest first. -/
def State.ownedSlots (s : State) (p : Port) : List SlotNo := allSlots.filter (s.owns p)

theorem owns_iff (s : State) (p : Port) (i : SlotNo) : s.owns p i = true ↔ ∃ w, (s.slot i).live = some w ∧ w.owner = p := by
  simp only [State.owns, Option.any_eq_true, beq_iff_eq]

theorem mem_ownedSlots (s : State) (p : Port) (i : SlotNo) : i ∈ s.ownedSlots p ↔ s.owns p i = true := by
  simp [State.ownedSlots, mem_allSlots]

/-- The port's request and markers withdrawn: the first steps of a detach (R63, R134). -/
def State.withdrawn (s : State) (p : Port) : State :=
  (State.onLease { s with waitList := s.waitList.erase p } p fun _ => .reset).onBuffer fun b =>
    { b with items := dropMarkers p b.items }

/-- The windows of the port revoked after that (R25). -/
def State.dispossessed (s : State) (p : Port) : State := (s.withdrawn p).revokeAll (s.ownedSlots p) none

/-- The engine once the commands of port `p` have left it (R108). -/
def Engine.without (p : Port) (e : Engine) : Engine :=
  if e.current.any (fun (a : ActiveCommand) => a.port == p) then e.ended else e

/-- The state of a detach before its evaluation of the wait list (R174). -/
def State.detached (s : State) (p : Port) : State :=
  (State.onEngine { s.dispossessed p with skips := (s.dispossessed p).skips.set p 0 } (Engine.without p)).onPort p fun hp =>
    { HostPort.reset with resetPin := hp.resetPin }

theorem detach_eq (s : State) (p : Port) : s.detach p =
    if 0 < s.windowCount p then (s.detached p).evaluateWaitList else s.detached p := by
  have split : s.detach p = if s.windowCount p = 0 then s.detached p else (s.detached p).evaluateWaitList := rfl
  rw [split]
  by_cases h : s.windowCount p = 0
  · rw [if_pos h, if_neg (by omega)]
  · rw [if_neg h, if_pos (by omega)]

theorem dropMarkers_entries (p : Port) (items : List AgeItem) :
    (dropMarkers p items).filterMap AgeItem.entry? = items.filterMap AgeItem.entry? := by
  induction items with
  | nil => rfl
  | cons it rest ih =>
    cases it with
    | entry e => simpa [dropMarkers, AgeItem.marker?] using ih
    | marker m =>
      by_cases own : m.port = p
      · simpa [dropMarkers, AgeItem.marker?, own] using ih
      · simpa [dropMarkers, AgeItem.marker?, own] using ih

theorem dropMarkers_markers (p : Port) (items : List AgeItem) :
    (dropMarkers p items).filterMap AgeItem.marker? = (items.filterMap AgeItem.marker?).filter fun m => m.port != p := by
  induction items with
  | nil => rfl
  | cons it rest ih =>
    cases it with
    | entry e => simpa [dropMarkers, AgeItem.marker?] using ih
    | marker m =>
      by_cases own : m.port = p
      · simpa [dropMarkers, AgeItem.marker?, own] using ih
      · simpa [dropMarkers, AgeItem.marker?, own] using ih

section Detach

variable (s : State) (p : Port)

theorem withdrawn_slot (i : SlotNo) : (s.withdrawn p).slot i = s.slot i := rfl

theorem withdrawn_entries : (s.withdrawn p).buffer.entries = s.buffer.entries := dropMarkers_entries p s.buffer.items

theorem withdrawn_markers : ∀ m ∈ (s.withdrawn p).buffer.markers, m.port ≠ p := by
  intro m h
  have h' : m ∈ (dropMarkers p s.buffer.items).filterMap AgeItem.marker? := h
  rw [dropMarkers_markers, List.mem_filter] at h'
  simpa using h'.2

/-- The revocations of a detach, over the state with the port's request and markers withdrawn. -/
theorem dispossessed_spec : Revocations (s.withdrawn p) (s.dispossessed p) (s.ownedSlots p) := by
  refine revokeAll_spec (allSlots_nodup.filter _) (fun i m => ?_) none
  obtain ⟨w, hw, -⟩ := (owns_iff s p i).mp ((mem_ownedSlots s p i).mp m)
  rw [withdrawn_slot, hw]; rfl

theorem ownedSlots_live : ∀ i ∈ s.ownedSlots p, ((s.withdrawn p).slot i).live.isSome = true := by
  intro i m
  obtain ⟨w, hw, -⟩ := (owns_iff s p i).mp ((mem_ownedSlots s p i).mp m)
  rw [withdrawn_slot, hw]; rfl

/-- The handles of the port's windows are those that name one of its slots under its generation. -/
theorem mem_ownedHandles (h : Handle) : h ∈ (s.ownedSlots p).map s.handle ↔
    s.owns p h.slot = true ∧ h.generation = (s.slot h.slot).generation := by
  rw [List.mem_map]
  constructor
  · rintro ⟨i, m, rfl⟩
    exact ⟨(mem_ownedSlots s p i).mp m, rfl⟩
  · rintro ⟨owned, generation⟩
    exact ⟨h.slot, (mem_ownedSlots s p _).mpr owned, by rw [State.handle, ← generation]⟩

theorem leavesAmong_owned (e : Entry) : e.leavesAmong ((s.ownedSlots p).map s.handle) =
    (s.owns p e.handle.slot && e.handle.generation == (s.slot e.handle.slot).generation &&
      (e.state == .opened || e.state == .closed)) := by
  unfold Entry.leavesAmong
  congr 1
  rw [Bool.eq_iff_iff, List.contains_iff_mem, mem_ownedHandles, Bool.and_eq_true, beq_iff_eq]

theorem voidAmong_owned (e : Entry) : e.voidAmong ((s.ownedSlots p).map s.handle) =
    if s.owns p e.handle.slot && e.handle.generation == (s.slot e.handle.slot).generation && e.state == .filling
      then { e with state := .voided } else e := by
  unfold Entry.voidAmong
  refine if_congr ?_ rfl rfl
  rw [mem_ownedHandles, Bool.and_eq_true, Bool.and_eq_true, beq_iff_eq, beq_iff_eq]

/-- The entries that leave with one of the port's windows. -/
theorem leaving_owned {i : SlotNo} (owned : s.owns p i = true) : (s.withdrawn p).leaving i =
    s.buffer.entries.countP fun e => e.handle.slot == i && e.leavesAmong ((s.ownedSlots p).map s.handle) := by
  rw [State.leaving, withdrawn_entries]
  refine List.countP_congr fun e _ => ?_
  rw [leavesAmong_owned]
  by_cases at_ : e.handle.slot = i
  · subst at_
    have same : (e.handle == (s.withdrawn p).handle e.handle.slot) =
        (e.handle.generation == (s.slot e.handle.slot).generation) := by
      rw [Bool.eq_iff_iff, beq_iff_eq, beq_iff_eq]
      exact ⟨fun h => congrArg Handle.generation h, fun h => by rw [State.handle, withdrawn_slot, ← h]⟩
    simp [Entry.leavesAtRevocation, same, owned]
  · have other : (e.handle == (s.withdrawn p).handle i) = false :=
      beq_eq_false_iff_ne.mpr fun h => at_ (congrArg Handle.slot h)
    simp [Entry.leavesAtRevocation, other, at_]

/-- The age order after a detach: without the port's markers, and its windows' entries voided (R127, R134). -/
theorem dispossessed_items : (s.dispossessed p).buffer.items =
    (s.buffer.items.filter fun it => !(it.marker?.any fun m => m.port == p) &&
      !(it.entry?.any (Entry.leavesAmong ((s.ownedSlots p).map s.handle)))).map
        (AgeItem.onEntry (Entry.voidAmong ((s.ownedSlots p).map s.handle))) := by
  have owner : ∀ i ∈ s.ownedSlots p, ∀ w, ((s.withdrawn p).slot i).live = some w → w.owner = p := by
    intro i m w hw
    obtain ⟨v, hv, hp⟩ := (owns_iff s p i).mp ((mem_ownedSlots s p i).mp m)
    rw [withdrawn_slot, hv] at hw
    cases hw
    exact hp
  rw [(dispossessed_spec s p).items p (withdrawn_markers s p) owner]
  show ((dropMarkers p s.buffer.items).filter _).map _ = _
  rw [dropMarkers, List.filter_filter]
  simp only [Bool.and_comm]
  rfl

/-- A port other than the detached one is told nothing by the detach itself. -/
theorem dispossessed_port {q : Port} (ne : q ≠ p) : (s.dispossessed p).ports.get q = s.ports.get q := by
  refine (dispossessed_spec s p).ports q fun i m w hw => ?_
  obtain ⟨v, hv, hp⟩ := (owns_iff s p i).mp ((mem_ownedSlots s p i).mp m)
  rw [withdrawn_slot, hv] at hw
  cases hw
  exact fun h => ne (h ▸ hp)

theorem dispossessed_frame : LeaseFrame (s.withdrawn p) (s.dispossessed p) :=
  foldl_frame (fun t i => t.revoke i none) (fun t i => revoke_frame t i none) _ _

/-- The engine of a detach: rid of the port's command, or signalled where an entry of another port's wait left (R108, R125). -/
theorem detached_engine : (s.detached p).engine =
    if s.engine.current.any fun (a : ActiveCommand) => a.port == p then released s.engine
    else if s.buffer.entries.countP (Entry.leavesAmong ((s.ownedSlots p).map s.handle)) = 0 then s.engine
    else signalled s.engine := by
  have engine : (s.dispossessed p).engine =
      if s.buffer.entries.countP (Entry.leavesAmong ((s.ownedSlots p).map s.handle)) = 0 then s.engine
      else signalled s.engine := by
    rw [(dispossessed_spec s p).engine, withdrawn_entries]
    rfl
  have after : (s.detached p).engine = (s.dispossessed p).engine.without p := rfl
  rw [after, engine]
  split
  · rfl
  · rfl

theorem detached_leaseSlot (q : Port) : (s.detached p).leaseSlots.get q =
    if q = p then .reset else s.leaseSlots.get q := by
  have same : (s.detached p).leaseSlots = (s.withdrawn p).leaseSlots :=
    (congrArg State.leaseSlots (dispossessed_spec s p).rest :)
  rw [same]
  exact PerPort.get_set _ p q _

theorem detached_port {q : Port} (ne : q ≠ p) : (s.detached p).ports.get q = s.ports.get q :=
  (State.onPort_get_of_ne _ _ ne).trans (dispossessed_port s p ne)

/-- The detached port's own Host Port Unit is reset but for its pin (R174). -/
theorem detached_own_port : (s.detached p).ports.get p = { HostPort.reset with resetPin := (s.ports.get p).resetPin } := by
  have pin : ((s.dispossessed p).ports.get p).resetPin = (s.ports.get p).resetPin :=
    (congrArg HostPort.resetPin ((dispossessed_frame s p).ports p) :)
  have own : (s.detached p).ports.get p =
      { HostPort.reset with resetPin := ((s.dispossessed p).ports.get p).resetPin } := State.onPort_get_self _ _ _
  rw [own, pin]

theorem detached_skips (q : Port) : (s.detached p).skips.get q = if q = p then 0 else s.skips.get q := by
  have same : (s.detached p).skips = (s.dispossessed p).skips.set p 0 := rfl
  rw [same, (dispossessed_frame s p).skips]
  exact PerPort.get_set _ p q 0

theorem detached_rest : { s.detached p with
    waitList := s.waitList, leaseSlots := s.leaseSlots, skips := s.skips, ports := s.ports, table := s.table
    engine := s.engine
    buffer := { (s.detached p).buffer with items := s.buffer.items, voided := s.buffer.voided } } = s :=
  (congrArg (fun t : State => { t with
    waitList := s.waitList, leaseSlots := s.leaseSlots, skips := s.skips
    buffer := { t.buffer with items := s.buffer.items } }) (dispossessed_spec s p).rest :)

end Detach

/-! ### The detach events -/

/-- A detach event is the detach of its port, and the assertion of the reset pin where it comes from there. -/
theorem exec_detaches {c : Instr} {p : Port} {s : State} (h : Detaches c p s) : (s.ports.get p).resetPin = .released ∧
    exec c s = .next ((s.detach p).onPort p fun hp =>
      { hp with resetPin := if c = .portReset p .asserted then .asserted else hp.resetPin }) := by
  rcases h with ⟨taken, abortToo, rfl⟩ | ⟨running, pin, rfl⟩
  · have event : exec (.detach p abortToo) s = .next (s.detach p) := by
      cases abortToo <;> exact congrArg Host.Outcome.next (writeAccess_of_takes taken _)
    refine ⟨taken.2, event.trans ?_⟩
    have other : Instr.detach p abortToo ≠ .portReset p .asserted := fun e => by cases e
    simp only [other, if_false]
    exact congrArg Host.Outcome.next (State.onPort_id _ p).symm
  · refine ⟨pin, ?_⟩
    simp only [exec, execPortReset, pin, ownEvent_of_running running, if_true]
    rfl

theorem detachBeforeEvaluation : Claims.DetachBeforeEvaluation := by
  intro c p s detaches owned ofOwned gone void left
  obtain ⟨pin, event⟩ := exec_detaches detaches
  have rs := dispossessed_spec s p
  have leaves : gone = Entry.leavesAmong ((s.ownedSlots p).map s.handle) := funext fun e => (leavesAmong_owned s p e).symm
  have voids : void = Entry.voidAmong ((s.ownedSlots p).map s.handle) := funext fun e => (voidAmong_owned s p e).symm
  refine ⟨s.detached p, _, event, ?_, (congrArg State.waitList rs.rest :), detached_leaseSlot s p, detached_skips s p,
    fun q => ?_, ?_, ?_, fun i free => ?_, fun i w passed own revocable => ?_, ?_, detached_rest s p⟩
  · rw [detach_eq]
  · by_cases h : q = p
    · subst h
      rw [if_pos rfl, detached_own_port, pin]
    · rw [if_neg h, detached_port s p h]
  · rw [leaves, voids]; exact dispossessed_items s p
  · rw [leaves, ← withdrawn_entries s p]; exact rs.voided
  · have out : i ∉ s.ownedSlots p := fun m => absurd ((mem_ownedSlots s p i).mp m) (Bool.eq_false_iff.mp free)
    exact rs.others i out
  · have revoked := rs.slots i ((mem_ownedSlots s p i).mpr own) w passed revocable
    rw [leaving_owned s p own, ← leaves] at revoked
    exact revoked
  · rw [leaves]; exact detached_engine s p

/-! ### What the evaluation of the wait list leaves of a detached port -/

/-- `t` comes from `u` by work of the Lease Manager that leaves port `p`, which has no window and no request, alone. -/
structure Untouched (p : Port) (u t : State) : Prop where
  port : t.ports.get p = u.ports.get p
  lease : t.leaseSlots.get p = u.leaseSlots.get p
  windows : ∀ i w, (t.slot i).live = some w → w.owner ≠ p
  waitList : ∀ q ∈ t.waitList, q ∈ u.waitList
  entries : ∀ e ∈ t.buffer.entries, e ∈ u.buffer.entries ∨ e.state = .voided
  engine : t.engine = u.engine ∨ t.engine = signalled u.engine

theorem Untouched.refl {p : Port} {u : State} (windows : ∀ i w, (u.slot i).live = some w → w.owner ≠ p) :
    Untouched p u u := ⟨rfl, rfl, windows, fun _ m => m, fun _ m => .inl m, .inl rfl⟩

/-- An entry after revocations is one from before, or VOID. -/
theorem Revocations.mem_entries {s t : State} {l : List SlotNo} (r : Revocations s t l) {e : Entry}
    (m : e ∈ t.buffer.entries) : e ∈ s.buffer.entries ∨ e.state = .voided := by
  rw [r.entries, voidItemsAmong_entries] at m
  obtain ⟨old, stays, rfl⟩ := List.mem_map.mp m
  unfold Entry.voidAmong
  split
  · exact .inr rfl
  · exact .inl (List.mem_of_mem_filter stays)

/-- The evaluation of another port's request leaves a port with no window and no request alone (R55). -/
theorem Untouched.evaluateOne {p : Port} {u : State} (idle : (u.leaseSlots.get p).waiting = none) (t : State) (q : Port)
    (h : Untouched p u t) : Untouched p u (t.evaluateOne q).1 := by
  rcases evaluateOne_cases t q with same | ⟨w, i, waiting, -, granted⟩
  · rw [same]; exact h
  have ne : p ≠ q := fun e => by
    rw [← e, h.lease, idle] at waiting
    cases waiting
  have rs := preempted_spec t q w.request
  have live : ∀ j ∈ t.conflictSet q w.request, (t.slot j).live.isSome = true := fun _ => conflictSet_live
  have rest : (t.preempted q w.request).leaseSlots = t.leaseSlots ∧ (t.preempted q w.request).waitList = t.waitList :=
    ⟨(congrArg State.leaseSlots rs.rest :), (congrArg State.waitList rs.rest :)⟩
  rw [granted]
  refine ⟨?_, ?_, fun j v hv => ?_, fun r m => ?_, fun e m => ?_, ?_⟩
  · rw [grantWaiting_port _ _ _ _ ne, rs.ports p fun j _ v hv => h.windows j v hv, h.port]
  · rw [grantWaiting_leaseSlot _ _ _ _ ne, rest.1, h.lease]
  · rw [grantWaiting_slot] at hv
    split at hv
    · cases hv; exact ne.symm
    · exact h.windows j v (rs.live live hv).2
  · rw [grantWaiting_waitList, rest.2] at m
    exact h.waitList r (List.mem_of_mem_erase m)
  · rw [grantWaiting_buffer] at m
    exact (rs.mem_entries m).elim (h.entries e) .inr
  · rw [grantWaiting_engine, rs.engine]
    split
    · exact h.engine
    · exact .inr (h.engine.elim (congrArg signalled) fun k => by rw [k, signalled_signalled])

theorem detachAfterEvaluation : Claims.DetachAfterEvaluation := by
  intro c p s detaches
  obtain ⟨pin, event⟩ := exec_detaches detaches
  have rs := dispossessed_spec s p
  have windows : ∀ i w, ((s.detached p).slot i).live = some w → w.owner ≠ p := fun i w hw owner => by
    obtain ⟨out, old⟩ := rs.live (ownedSlots_live s p) hw
    exact out ((mem_ownedSlots s p i).mpr ((owns_iff s p i).mpr ⟨w, old, owner⟩))
  have lease : (s.detached p).leaseSlots.get p = .reset := by rw [detached_leaseSlot, if_pos rfl]
  have kept : Untouched p (s.detached p) (s.detach p) ∧ LeaseFrame (s.detached p) (s.detach p) := by
    rw [detach_eq]
    split
    · exact ⟨evaluateWaitList_keeps (Untouched.evaluateOne (by rw [lease]; rfl)) (.refl windows), evaluateWaitList_frame _⟩
    · exact ⟨.refl windows, .refl _⟩
  obtain ⟨kept, frame⟩ := kept
  have logic := detach_event s p
  have pointer : (s.detached p).pointer = s.pointer := (congrArg State.pointer (detached_rest s p) :)
  refine ⟨_, event, ?_, kept.lease.trans lease, ?_, ?_, kept.windows, ?_, fun e m w live owner generation => ?_,
    fun a current own => ?_, fun others => ?_, fun q ne => ⟨?_, ?_⟩, logic.config, logic.globalState, logic.composer,
    logic.memory, logic.channel, frame.pointer.trans pointer, logic.alternation, logic.clearPosition, logic.precedence⟩
  · rw [State.onPort_get_self, kept.port, detached_own_port, pin]
  · exact (congrArg (fun k => k.get p) frame.skips).trans (by rw [detached_skips, if_pos rfl])
  · by_cases once : s.waitList.Nodup
    · refine .inl fun m => ?_
      have list : (s.detached p).waitList = s.waitList.erase p := (congrArg State.waitList rs.rest :)
      have m' := kept.waitList p m
      rw [list] at m'
      exact once.not_mem_erase m'
    · exact .inr once
  · refine List.eq_nil_of_length_eq_zero (Nat.le_zero.mp (le_trans (frame.markers p) ?_))
    have unmarked : (s.withdrawn p).buffer.markersOf p = [] :=
      List.filter_eq_nil_iff.mpr fun m h => by simpa using withdrawn_markers s p m h
    have fewer := (dispossessed_frame s p).markers p
    rwa [unmarked] at fewer
  · refine (kept.entries e m).elim (fun old => ?_) .inr
    refine rs.entry_state (i := e.handle.slot) old ?_ ?_
    · exact (mem_ownedSlots s p _).mpr ((owns_iff s p _).mpr ⟨w, live, owner⟩)
    · rw [State.handle, withdrawn_slot, generation]
  · have engine : (s.detached p).engine = released s.engine := by
      rw [detached_engine, current, if_pos (by simp [own])]
    have stays : signalled (released s.engine) = released s.engine := by
      unfold signalled released
      cases s.engine.outstandingRead <;> rfl
    exact kept.engine.elim (fun k => k.trans engine) fun k => by rw [State.onPort_engine, k, engine, stays]
  · have other : ¬ (s.engine.current.any fun (a : ActiveCommand) => a.port == p) = true := fun h => by
      obtain ⟨a, current, own⟩ := (Option.any_eq_true _ _).mp h
      exact others a current (beq_iff_eq.mp own)
    have engine : { (s.detached p).engine with retryPost := s.engine.retryPost } = s.engine := by
      rw [detached_engine, if_neg other]
      split <;> rfl
    rw [State.onPort_engine]
    rcases kept.engine with k | k <;> rw [k] <;> exact engine
  · rw [State.onPort_get_of_ne _ _ ne, frame.ports, detached_port s p ne]
  · rw [State.onPort_skips, frame.skips, detached_skips, if_neg ne]

theorem pinAlone : Claims.PinAlone := by
  intro p s
  have already {level : PinLevel} (pin : (s.ports.get p).resetPin = level) :
      s = s.onPort p fun hp => { hp with resetPin := level } := by
    subst pin
    unfold State.onPort
    exact congrArg (fun ports => { s with ports := ports }) (PerPort.set_get s.ports p).symm
  refine ⟨?_, fun held => ?_⟩
  · simp only [exec, execPortReset]
    split
    · next pin => exact congrArg Host.Outcome.next (already pin)
    · rfl
  · simp only [exec, execPortReset]
    split
    · next pin => exact congrArg Host.Outcome.next (already pin)
    · rw [ownEvent, if_pos held]

/-- Settles O54: a detach up to the evaluation of the wait list, what that evaluation leaves, and the reset pin alone. -/
theorem detachOutcome : Obligations.DetachOutcome := ⟨detachBeforeEvaluation, detachAfterEvaluation, pinAlone⟩

end Sys2Proof.Machine
end

section
/-! SUPPORT. The commands that leave the window table, the lease slots, the wait list and the age order as they are, and the
commands that may change one of them. -/

namespace Sys2Proof.Machine

/-! ### What the Lease Manager and the buffer read -/

/-- `t` agrees with `s` on the window table, the lease slots and the wait list. -/
structure LeaseView (s t : State) : Prop where
  table : t.table = s.table
  leaseSlots : t.leaseSlots = s.leaseSlots
  waitList : t.waitList = s.waitList
  parkings : t.parkings = s.parkings

/-- `t` agrees with `s` on the age order too. -/
structure TableFrame (s t : State) : Prop extends LeaseView s t where
  items : t.buffer.items = s.buffer.items

theorem LeaseView.refl (s : State) : LeaseView s s := ⟨rfl, rfl, rfl, rfl⟩

theorem LeaseView.trans {s t u : State} (a : LeaseView s t) (b : LeaseView t u) : LeaseView s u :=
  ⟨b.table.trans a.table, b.leaseSlots.trans a.leaseSlots, b.waitList.trans a.waitList, b.parkings.trans a.parkings⟩

theorem TableFrame.refl (s : State) : TableFrame s s := ⟨.refl s, rfl⟩

theorem TableFrame.trans {s t u : State} (a : TableFrame s t) (b : TableFrame t u) : TableFrame s u :=
  ⟨a.toLeaseView.trans b.toLeaseView, b.items.trans a.items⟩

/-! ### The named updates -/

theorem onPort_table (s : State) (p : Port) (f : HostPort → HostPort) : TableFrame s (s.onPort p f) :=
  ⟨⟨rfl, rfl, rfl, rfl⟩, rfl⟩

theorem onEngine_table (s : State) (f : Engine → Engine) : TableFrame s (s.onEngine f) := ⟨⟨rfl, rfl, rfl, rfl⟩, rfl⟩

theorem onComposer_table (s : State) (f : Composer → Composer) : TableFrame s (s.onComposer f) :=
  ⟨⟨rfl, rfl, rfl, rfl⟩, rfl⟩

theorem onBuffer_view (s : State) (f : Buffer → Buffer) : LeaseView s (s.onBuffer f) := ⟨rfl, rfl, rfl, rfl⟩

theorem onBuffer_table {s : State} {f : Buffer → Buffer} (items : (f s.buffer).items = s.buffer.items) :
    TableFrame s (s.onBuffer f) := ⟨onBuffer_view s f, items⟩

theorem freeChannel_table (s : State) : TableFrame s s.freeChannel := ⟨⟨rfl, rfl, rfl, rfl⟩, rfl⟩

theorem writeBlock_table (s : State) (b : BlockName) (v : Block) : TableFrame s (s.writeBlock b v) :=
  ⟨⟨rfl, rfl, rfl, rfl⟩, rfl⟩

theorem post_table (s : State) (p : Port) (n : Notice) : TableFrame s (s.post p n) := onPort_table s p _

theorem postAll_table (s : State) (n : Notice) : TableFrame s (s.postAll n) := by
  rw [postAll_eq]
  exact ⟨⟨rfl, rfl, rfl, rfl⟩, rfl⟩

/-! ### Host accesses -/

theorem submit_table (s : State) (p : Port) (u : Submission) : TableFrame s (s.submit p u) := by
  unfold State.submit
  split
  · exact onPort_table _ _ _
  split
  · exact onPort_table _ _ _
  split <;> exact onPort_table _ _ _

theorem abort_table (s : State) (p : Port) : TableFrame s (s.abort p) :=
  ((onPort_table s p _).trans (onEngine_table _ _)).trans (onPort_table _ _ _)

theorem restartDataTimer_table (s : State) (p : Port) (e : EngineState) : TableFrame s (s.restartDataTimer p e) := by
  unfold State.restartDataTimer
  split
  · exact onEngine_table _ _
  · exact .refl s

theorem pushUpload_table (s : State) (p : Port) (w : Word) : TableFrame s (s.pushUpload p w) := by
  unfold State.pushUpload
  split
  · exact (onPort_table s p _).trans (restartDataTimer_table _ _ _)
  · exact onPort_table _ _ _

theorem popReadback_table (s : State) (p : Port) : TableFrame s (s.popReadback p) := by
  unfold State.popReadback
  split
  · exact onPort_table _ _ _
  · exact (onPort_table s p _).trans (restartDataTimer_table _ _ _)

/-! ### Start-up -/

theorem writeConfig_table (s : State) (p : Port) (f : ConfigField) (w : Word) : TableFrame s (s.writeConfig p f w) := by
  unfold State.writeConfig
  split
  · exact ⟨⟨rfl, rfl, rfl, rfl⟩, rfl⟩
  · exact onPort_table _ _ _

theorem enterRun_table (s : State) : TableFrame s s.enterRun := by
  unfold State.enterRun
  rw [postAll_eq]
  exact ⟨⟨rfl, rfl, rfl, rfl⟩, rfl⟩

theorem takeCommit_table (s : State) (p : Port) : TableFrame s (s.takeCommit p) := by
  unfold State.takeCommit
  split
  · split
    · simp only []
      split
      · exact ⟨⟨rfl, rfl, rfl, rfl⟩, rfl⟩
      · exact TableFrame.trans (t := { s with commitResult := .ok }) ⟨⟨rfl, rfl, rfl, rfl⟩, rfl⟩ (enterRun_table _)
    · exact ⟨⟨rfl, rfl, rfl, rfl⟩, rfl⟩
  · exact onPort_table _ _ _

theorem clearWriteCompletion_table (s : State) : TableFrame s s.clearWriteCompletion := by
  unfold State.clearWriteCompletion
  split
  next v b _ =>
    refine ((freeChannel_table s).trans (writeBlock_table s.freeChannel b v)).trans ?_
    unfold State.advanceClear
    split
    · exact ⟨⟨rfl, rfl, rfl, rfl⟩, rfl⟩
    · exact enterRun_table _
  next => exact .refl s

theorem deviceResetEnd_table {s t : State} {straps : Straps} (h : execDeviceResetEnd straps s = .next t) :
    TableFrame s t := by
  unfold execDeviceResetEnd at h
  split at h <;> cases h
  · exact ⟨⟨rfl, rfl, rfl, rfl⟩, rfl⟩
  · exact .refl s

/-! ### Drawing events -/

theorem endDone_table (s : State) (p : Port) (c : DrawCommand) : TableFrame s (s.endDone p c) := by
  unfold State.endDone
  simp only []
  split
  · exact ((post_table s p _).trans (onPort_table _ p _)).trans (onEngine_table _ _)
  · exact (onPort_table s p _).trans (onEngine_table _ _)

theorem endFault_table (s : State) (p : Port) (c : DrawCommand) (code : FaultCode) (n : Nat) :
    TableFrame s (s.endFault p c code n) := ((post_table s p _).trans (onPort_table _ p _)).trans (onEngine_table _ _)

theorem startCommand_table (s : State) (p : Port) (c : DrawCommand) : TableFrame s (s.startCommand p c) := by
  unfold State.startCommand
  split
  · exact endFault_table _ _ _ _ _
  · split
    · exact endDone_table _ _ _
    · exact onEngine_table _ _

theorem choiceEvent_table (s : State) : TableFrame s s.choiceEvent := by
  unfold State.choiceEvent
  split
  · split
    · split
      · next p _ _ c _ =>
        exact TableFrame.trans (t := { s with skips := s.skipsAfter p, pointer := p }.onPort p fun hp =>
          { hp with queue := hp.queue.tail }) ⟨⟨rfl, rfl, rfl, rfl⟩, rfl⟩ (startCommand_table _ p c)
      · exact .refl s
    · exact .refl s
  · exact .refl s

theorem finishWriting_table (s : State) (a : ActiveCommand) (q : SpanPosition) (n : Nat) :
    TableFrame s (s.finishWriting a q n) := (onPort_table s a.port _).trans (onEngine_table _ _)

theorem raiseRead_table (s : State) (n : BlockName) : TableFrame s (s.raiseRead n) := by
  unfold State.raiseRead
  split <;> exact (onBuffer_table rfl).trans (onEngine_table _ _)

theorem forwardedRead_table (s : State) : TableFrame s s.forwardedRead := by
  unfold State.forwardedRead
  split
  · split
    · split
      · split
        · unfold State.readSpan
          split
          · split
            · exact raiseRead_table _ _
            · exact endFault_table _ _ _ _ _
          · exact raiseRead_table _ _
        · exact .refl s
      · exact .refl s
    · exact .refl s
  · exact .refl s

theorem uploadPop_table (s : State) : TableFrame s s.uploadPop := by
  unfold State.uploadPop
  split
  · split
    · split
      · unfold State.popUpload
        split
        · split
          · exact onEngine_table _ _
          · exact .refl s
        · exact (onPort_table s _ _).trans (onEngine_table _ _)
      · exact .refl s
    · exact .refl s
  · exact .refl s

theorem readbackPush_table (s : State) : TableFrame s s.readbackPush := by
  unfold State.readbackPush
  split
  · split
    · split
      · unfold State.pushReadback
        split
        · exact (onPort_table s _ _).trans (onEngine_table _ _)
        · split
          · exact onEngine_table _ _
          · exact .refl s
      · exact .refl s
    · exact .refl s
  · exact .refl s

theorem spanSkip_table (s : State) : TableFrame s s.spanSkip := by
  unfold State.spanSkip
  split
  · split
    · split
      · exact finishWriting_table _ _ _ _
      · exact .refl s
    · exact .refl s
  · exact .refl s

theorem markEvent_table (s : State) : TableFrame s s.markEvent := by
  unfold State.markEvent
  split
  · split
    · exact endFault_table _ _ _ _ _
    · exact .refl s
  · exact .refl s

theorem commandEnd_table (s : State) : TableFrame s s.commandEnd := by
  unfold State.commandEnd
  split
  · split
    · exact endDone_table _ _ _
    · exact .refl s
  · exact .refl s

theorem timeoutData_table (s : State) : TableFrame s s.timeoutData := by
  unfold State.timeoutData
  split
  · split
    · exact endFault_table _ _ _ _ _
    · exact .refl s
  · exact .refl s

/-! ### The Composer and the completions of reads -/

theorem lineDue_table (s : State) : TableFrame s s.lineDue := by
  unfold State.lineDue State.lineDueAt
  split
  · simp only []
    split
    · exact onComposer_table s _
    · split
      · exact onComposer_table s _
      · exact (onComposer_table s _).trans (postAll_table _ _)
  · exact .refl s

theorem trailingBlankLine_table (s : State) : TableFrame s s.trailingBlankLine := by
  unfold State.trailingBlankLine
  split
  · exact onComposer_table s _
  · exact .refl s

theorem engineReadDelivery_table (s : State) : TableFrame s s.engineReadDelivery := by
  unfold State.engineReadDelivery
  split
  · exact ((freeChannel_table s).trans (onBuffer_table rfl)).trans (onEngine_table _ _)
  · exact .refl s

theorem fetchCompletion_table (s : State) : TableFrame s s.fetchCompletion := by
  unfold State.fetchCompletion
  split
  · exact (freeChannel_table s).trans (onComposer_table _ _)
  · exact .refl s

/-! ### Every other command -/

/-- The commands that can change the window table, a lease slot, the wait list or the age order, and the raw register write,
which can be any of them where it is ill formed. -/
def touchesTable : Instr → Bool
  | .deviceReset | .portReset _ _ | .request _ | .release _ _ | .setVisible _ _ _ | .cancel _ | .detach _ _
  | .registerWrite _ _ _ | .leaseTimeout _ | .frameStart | .grantEvent | .underfillCompletion | .blockWriteCompletion
  | .fenceTake _ | .spanPost => true
  | _ => false

section Accesses

variable {s t : State} {p : Port} {f : State → State}

theorem writeAccess_table (h : Host.Outcome.next (φ := Fault) (ρ := Refusal) (writeAccess s p f) = .next t)
    (hf : TableFrame s (f s)) : TableFrame s t := by
  cases h
  exact writeAccess_of (P := TableFrame s) (.refl s) fun _ => hf

theorem readAccess_table {w : Word} (h : Host.Outcome.next (φ := Fault) (ρ := Refusal) (readAccess s p w f) = .next t)
    (hf : TableFrame s (f s)) : TableFrame s t := by
  cases h
  exact readAccess_of (P := TableFrame s) (.refl s) (fun _ => hf) fun _ _ k => k.trans (onPort_table _ _ _)

theorem ownEvent_table (h : Host.Outcome.next (φ := Fault) (ρ := Refusal) (ownEvent s f) = .next t)
    (hf : TableFrame s (f s)) : TableFrame s t := by
  cases h
  exact ownEvent_of (P := TableFrame s) (.refl s) fun _ => hf

end Accesses

theorem badOffset_table {s t : State} {p : Port} {access : BadAccess} (h : execBadOffset p access s = .next t) :
    TableFrame s t := by
  cases access with
  | narrowRead offset => exact readAccess_table h (onPort_table s p _)
  | narrowWrite offset => exact writeAccess_table h (onPort_table s p _)
  | unmappedRead offset =>
    unfold execBadOffset at h
    simp only [] at h
    split at h
    · cases h; exact .refl s
    · exact readAccess_table h (onPort_table s p _)
  | unmappedWrite offset =>
    unfold execBadOffset at h
    simp only [] at h
    split at h
    · cases h; exact .refl s
    · exact writeAccess_table h (onPort_table s p _)

/-- Every other command leaves the window table, the lease slots, the wait list and the age order. -/
theorem exec_table {c : Instr} {s t : State} (other : touchesTable c = false) (h : exec c s = .next t) : TableFrame s t := by
  cases c with
  | deviceReset | portReset | request | release | setVisible | cancel | detach | registerWrite | leaseTimeout | frameStart
  | grantEvent | underfillCompletion | blockWriteCompletion | fenceTake | spanPost => cases other
  | deviceResetEnd straps => exact deviceResetEnd_table h
  | configWrite p f w => exact writeAccess_table h (writeConfig_table s p f w)
  | commit p w => exact writeAccess_table h (takeCommit_table s p)
  | fill p tag notify => exact writeAccess_table h (submit_table s p _)
  | pattern p tag notify => exact writeAccess_table h (submit_table s p _)
  | copy p tag notify => exact writeAccess_table h (submit_table s p _)
  | upload p tag notify => exact writeAccess_table h (submit_table s p _)
  | readback p tag notify => exact writeAccess_table h (submit_table s p _)
  | fence p token => exact writeAccess_table h (submit_table s p _)
  | badKind p kind => cases kind <;> exact writeAccess_table h (submit_table s p _)
  | uploadPush p w => exact writeAccess_table h (pushUpload_table s p w)
  | readbackPop p => exact readAccess_table h (popReadback_table s p)
  | noticeWord1 p => exact readAccess_table h (onPort_table s p _)
  | accessError p => exact readAccess_table h (onPort_table s p _)
  | lossCount p => exact readAccess_table h (onPort_table s p _)
  | abort p => exact writeAccess_table h (abort_table s p)
  | intEnable p w => exact writeAccess_table h (onPort_table s p _)
  | noticeEnable p w => exact writeAccess_table h (onPort_table s p _)
  | badOffset p access => exact badOffset_table h
  | dataTimeout => exact ownEvent_table h (timeoutData_table s)
  | lineDue => exact ownEvent_table h (lineDue_table s)
  | engineReadDelivery => exact ownEvent_table h (engineReadDelivery_table s)
  | fetchCompletion => exact ownEvent_table h (fetchCompletion_table s)
  | clearWriteCompletion => exact ownEvent_table h (clearWriteCompletion_table s)
  | choiceEvent => exact ownEvent_table h (choiceEvent_table s)
  | forwardedRead => exact ownEvent_table h (forwardedRead_table s)
  | uploadPop => exact ownEvent_table h (uploadPop_table s)
  | readbackPush => exact ownEvent_table h (readbackPush_table s)
  | spanSkip => exact ownEvent_table h (spanSkip_table s)
  | markEvent => exact ownEvent_table h (markEvent_table s)
  | commandEnd => exact ownEvent_table h (commandEnd_table s)
  | trailingBlankLine => exact ownEvent_table h (trailingBlankLine_table s)

/-- A word written to a register does the same but for LEASE_OP and CONTROL. -/
theorem writeRegister_table {s : State} {p : Port} {r : Register} {w : Word} (lease : r ≠ .leaseOp) (control : r ≠ .control) :
    TableFrame s (s.writeRegister p r w) := by
  cases r with
  | cmdHandle | cmdRegionXY | cmdRegionWH | cmdRopMask | cmdColour | cmdFgBg | cmdPattern0 | cmdPattern1 | cmdOrigin
  | cmdSrcHandle | cmdSrcXY | cmdSrcKey | leaseLayerRights | leaseRegionXY | leaseRegionWH | leaseVisKey | leaseFlags
  | intEnable | noticeEnable => exact ⟨⟨rfl, rfl, rfl, rfl⟩, rfl⟩
  | submit => exact submit_table s p _
  | leaseOp => exact absurd rfl lease
  | uploadPush => exact pushUpload_table s p w
  | control => exact absurd rfl control
  | config f => exact writeConfig_table s p f w
  | commit => exact takeCommit_table s p
  | submitResult | leaseResult | leaseHandle | readbackPop | noticeWord0 | noticeWord1 | portStatus | fifoStatus
  | accessError | lossCount | portInfo | pixelsWritten | pixelsKeyed | commandsDone | commandsFaulted | merges
  | fullForwards | underfills | voided | underruns | frames | commitResult | globalState => exact .refl s

end Sys2Proof.Machine
end

section
/-! SUPPORT. The laws of the Lease Manager, kept by every step: what only takes windows away or leaves the table and the wait
list alone keeps them, and a grant, a parking and a leave of the wait list each keep them (R31, R32, R36, R38, R53). -/

namespace Sys2Proof.Machine

/-! ### What grants nothing -/

/-- Slot `b` holds no HELD or DRAINING window but one of `a`'s owner, layer and region, and is FREE where `a` is. -/
structure Slot.Kept (a b : Slot) : Prop where
  live : ∀ w, b.live = some w → ∃ v, a.live = some v ∧ v.owner = w.owner ∧ v.layer = w.layer ∧ v.region = w.region
  free : a.state = .free → b.state = .free

theorem Slot.Kept.of_live {a b : Slot} (live : b.live = a.live ∨ b.live = none) (free : a.state = .free → b.state = .free) :
    a.Kept b where
  live w hw := by
    rcases live with same | none
    · exact ⟨w, same ▸ hw, rfl, rfl, rfl⟩
    · rw [none] at hw; cases hw
  free := free

theorem Slot.Kept.refl (sl : Slot) : sl.Kept sl := .of_live (.inl rfl) id

theorem Slot.Kept.trans {a b c : Slot} (h : a.Kept b) (k : b.Kept c) : a.Kept c where
  live w hw := by
    obtain ⟨v, hv, owner, layer, region⟩ := k.live w hw
    obtain ⟨u, hu, owner', layer', region'⟩ := h.live v hv
    exact ⟨u, hu, owner'.trans owner, layer'.trans layer, region'.trans region⟩
  free := k.free ∘ h.free

theorem Slot.freed_live (sl : Slot) : sl.freed.live = sl.live ∨ sl.freed.live = none := by
  unfold Slot.freed
  split
  · exact .inr rfl
  · exact .inl rfl

theorem Slot.freed_kept (sl : Slot) : sl.Kept sl.freed := by
  refine .of_live sl.freed_live fun free => ?_
  unfold Slot.freed
  split
  · rfl
  · exact free

theorem Slot.passFrame_live (sl : Slot) : sl.passFrame.live = sl.live := by
  unfold Slot.passFrame Slot.live
  cases h : sl.state <;> simp [h]

theorem Slot.passFrame_kept (sl : Slot) : sl.Kept sl.passFrame :=
  .of_live (.inl sl.passFrame_live) fun free => by simp [Slot.passFrame, free]

/-- `t` comes from `s` by an event that grants nothing, parks nothing and takes no request out of the wait list. -/
structure LeaseKept (s t : State) : Prop where
  slots : ∀ i, (s.slot i).Kept (t.slot i)
  parked : ∀ p, (t.leaseSlots.get p).waiting.map WaitingRequest.parkTime =
    (s.leaseSlots.get p).waiting.map WaitingRequest.parkTime
  waitList : t.waitList = s.waitList
  parkings : t.parkings = s.parkings

theorem LeaseKept.of_slots {s t : State} (slots : ∀ i, (s.slot i).Kept (t.slot i)) (leases : t.leaseSlots = s.leaseSlots)
    (waitList : t.waitList = s.waitList) (parkings : t.parkings = s.parkings) : LeaseKept s t :=
  ⟨slots, fun _ => by rw [leases], waitList, parkings⟩

theorem LeaseView.kept {s t : State} (v : LeaseView s t) : LeaseKept s t :=
  .of_slots (fun i => by rw [State.slot_of_table v.table]; exact .refl _) v.leaseSlots v.waitList v.parkings

theorem LeaseKept.trans {s t u : State} (a : LeaseKept s t) (b : LeaseKept t u) : LeaseKept s u :=
  ⟨fun i => (a.slots i).trans (b.slots i), fun p => (b.parked p).trans (a.parked p), b.waitList.trans a.waitList,
    b.parkings.trans a.parkings⟩

theorem onSlot_kept {s : State} {i : SlotNo} {f : Slot → Slot} (h : (s.slot i).Kept (f (s.slot i))) :
    LeaseKept s (s.onSlot i f) := by
  refine .of_slots (fun j => ?_) rfl rfl rfl
  rw [State.onSlot_slot]
  split
  · next e => rw [e]; exact h
  · exact .refl _

theorem record_kept (s : State) (p : Port) (op : LeaseOperation) (result : LeaseResult) (h : Option Handle) :
    LeaseKept s (s.record p op result h) where
  slots _ := .refl _
  parked q := by
    by_cases e : q = p
    · subst e; simp [State.record]
    · rw [State.record, State.onLease_get_of_ne _ _ e]
  waitList := rfl
  parkings := rfl

section Kept

variable {s t : State} (k : LeaseKept s t)
include k

theorem LeaseKept.request {p : Port} {w : WaitingRequest} (hw : (t.leaseSlots.get p).waiting = some w) :
    ∃ v, (s.leaseSlots.get p).waiting = some v ∧ v.parkTime = w.parkTime := by
  have same := k.parked p
  rw [hw, Option.map_some] at same
  exact Option.map_eq_some_iff.mp same.symm

theorem LeaseKept.isSome (p : Port) :
    (t.leaseSlots.get p).waiting.isSome = (s.leaseSlots.get p).waiting.isSome := by
  have same := congrArg Option.isSome (k.parked p)
  rwa [Option.isSome_map, Option.isSome_map] at same

theorem LeaseKept.windowCount (p : Port) : t.windowCount p ≤ s.windowCount p := by
  refine List.countP_mono_left fun i _ own => ?_
  obtain ⟨w, hw, owner⟩ := (Option.any_eq_true _ _).mp own
  obtain ⟨v, hv, same, -, -⟩ := (k.slots i).live w hw
  rw [hv, Option.any_some, same]
  exact owner

/-- Such an event keeps the laws, also where it moves the global state on. -/
theorem LeaseLaws.of_kept (h : LeaseLaws s) (config : t.config = s.config) (precedence : t.precedence = s.precedence)
    (reset : t.deviceReset = true → t.globalState = .setup) (setup : t.globalState = .setup → s.globalState = .setup) :
    LeaseLaws t where
  quota :=
    { within := fun p => by
        rw [State.quotaOf, config]
        exact (k.windowCount p).trans (h.quota.within p)
      waiting := fun p e => by
        rw [State.quotaOf, config]
        exact (k.windowCount p).trans_lt (h.quota.waiting p (k.isSome p ▸ e)) }
  overlap i j w v hw hv owners layers := by
    obtain ⟨w', hw', owner, layer, region⟩ := (k.slots i).live w hw
    obtain ⟨v', hv', owner', layer', region'⟩ := (k.slots j).live v hv
    have apart := h.overlap i j w' v' hw' hv' (by rwa [owner, owner']) (by rw [layer, layer', layers])
    rwa [region, region'] at apart
  wait :=
    { waiting := fun p => by rw [k.waitList, k.isSome]; exact h.wait.waiting p
      nodup := by rw [k.waitList]; exact h.wait.nodup
      ordered := by
        rw [k.waitList]
        refine h.wait.ordered.imp fun {p q} ahead w v hw hv => ?_
        obtain ⟨w', hw', parked⟩ := k.request hw
        obtain ⟨v', hv', parked'⟩ := k.request hv
        have first := ahead w' v' hw' hv'
        rwa [parked, parked', ← precedence] at first
      parked := fun p w hw => by
        obtain ⟨w', hw', parked⟩ := k.request hw
        rw [k.parkings, ← parked]
        exact h.wait.parked p w' hw' }
  setup :=
    { reset := reset
      table := fun e i => (k.slots i).free (h.setup.table (setup e) i)
      waitList := fun e => k.waitList.trans (h.setup.waitList (setup e)) }

theorem LeaseLaws.kept (h : LeaseLaws s) (frame : LogicFrame s t) : LeaseLaws t :=
  h.of_kept k frame.config frame.precedence (fun e => frame.globalState.trans (h.setup.reset (frame.deviceReset ▸ e)))
    fun e => frame.globalState ▸ e

end Kept

theorem LeaseFrame.logic {s t : State} (f : LeaseFrame s t) : LogicFrame s t := f.event.unwritten.toLogicFrame

theorem EventFrame.logic {s t : State} (f : EventFrame s t) : LogicFrame s t := f.unwritten.toLogicFrame

/-- An empty table and an empty wait list meet the laws under every configuration. -/
theorem LeaseLaws.of_empty {t : State} (table : ∀ i, (t.slot i).state = .free)
    (idle : ∀ p, (t.leaseSlots.get p).waiting = none) (waitList : t.waitList = [])
    (reset : t.deviceReset = true → t.globalState = .setup) : LeaseLaws t where
  quota :=
    { within := fun p => by
        have none : t.windowCount p = 0 := List.countP_eq_zero.mpr fun i _ => by simp [Slot.live_of_free (table i)]
        rw [none]; exact Nat.zero_le _
      waiting := fun p e => by rw [idle] at e; cases e }
  overlap i j w v hw := by rw [Slot.live_of_free (table i)] at hw; cases hw
  wait :=
    { waiting := fun p => by rw [waitList, idle]; exact ⟨(fun m => by cases m), fun e => by cases e⟩
      nodup := by rw [waitList]; exact List.nodup_nil
      ordered := by rw [waitList]; exact List.Pairwise.nil
      parked := fun p w e => by rw [idle] at e; cases e }
  setup := ⟨reset, fun _ => table, fun _ => waitList⟩

section Laws

variable {s : State} (h : LeaseLaws s)
include h

/-- In SETUP the configuration, the straps and the global state are free to change. -/
theorem LeaseLaws.of_setup (setup : s.globalState = .setup) {t : State} (view : LeaseView s t)
    (reset : t.deviceReset = true → t.globalState = .setup) : LeaseLaws t := by
  refine .of_empty (fun i => ?_) (fun p => ?_) (view.waitList.trans (h.setup.waitList setup)) reset
  · rw [State.slot_of_table view.table]; exact h.setup.table setup i
  · rw [view.leaseSlots]
    have out : p ∉ s.waitList := by rw [h.setup.waitList setup]; exact List.not_mem_nil
    rw [h.wait.waiting] at out
    simpa using out

theorem LeaseLaws.view {t : State} (view : LeaseView s t) (frame : LogicFrame s t) : LeaseLaws t := h.kept view.kept frame

theorem LeaseLaws.record (p : Port) (op : LeaseOperation) (result : LeaseResult) (n : Option Handle) :
    LeaseLaws (s.record p op result n) := h.kept (record_kept s p op result n) (record_frame s p op result n).logic

theorem LeaseLaws.post (p : Port) (n : Notice) : LeaseLaws (s.post p n) :=
  h.view (post_table s p n).toLeaseView (post_frame s p n).logic

/-! ### The wait list (R38, R53) -/

theorem LeaseLaws.unwait (p : Port) : LeaseLaws (s.unwait p) := by
  have own : ((s.unwait p).leaseSlots.get p).waiting = none := by simp [State.unwait]
  have other {q : Port} (ne : q ≠ p) : (s.unwait p).leaseSlots.get q = s.leaseSlots.get q :=
    State.onLease_get_of_ne _ _ ne
  have still {q : Port} {w : WaitingRequest} (hw : ((s.unwait p).leaseSlots.get q).waiting = some w) :
      q ≠ p ∧ (s.leaseSlots.get q).waiting = some w := by
    by_cases e : q = p
    · rw [e, own] at hw; cases hw
    · exact ⟨e, other e ▸ hw⟩
  exact
    { quota :=
        { within := h.quota.within
          waiting := fun q e => by
            obtain ⟨w, hw⟩ := Option.isSome_iff_exists.mp e
            exact h.quota.waiting q (Option.isSome_iff_exists.mpr ⟨w, (still hw).2⟩) }
      overlap := h.overlap
      wait :=
        { waiting := fun q => by
            have member : q ∈ (s.unwait p).waitList ↔ q ≠ p ∧ q ∈ s.waitList := h.wait.nodup.mem_erase_iff
            rw [member, h.wait.waiting]
            by_cases e : q = p
            · simp [e, own]
            · simp [e, other e]
          nodup := h.wait.nodup.erase p
          ordered := (h.wait.ordered.sublist List.erase_sublist).imp fun ahead w v hw hv =>
            ahead w v (still hw).2 (still hv).2
          parked := fun q w hw => h.wait.parked q w (still hw).2 }
      setup :=
        { reset := h.setup.reset
          table := h.setup.table
          waitList := fun e => by
            have erased : (s.unwait p).waitList = s.waitList.erase p := rfl
            rw [erased, h.setup.waitList e]; rfl } }

end Laws

theorem joinWaitList_perm (precedence : PerPort (Fin 4)) (p : Port) (l : List Port) :
    (joinWaitList precedence p l).Perm (p :: l) := by
  induction l with
  | nil => exact .refl _
  | cons q rest ih =>
    unfold joinWaitList
    split
    · exact (ih.cons q).trans (.swap p q rest)
    · exact .refl _

/-- A port that joins a list ordered by precedence stands behind every smaller or equal number and ahead of every greater one
(R53). -/
theorem joinWaitList_pairwise {precedence : PerPort (Fin 4)} {p : Port} {l : List Port} {R : Port → Port → Prop}
    (sorted : l.Pairwise fun q r => precedence.get q ≤ precedence.get r) (ordered : l.Pairwise R)
    (behind : ∀ q ∈ l, precedence.get q ≤ precedence.get p → R q p)
    (before : ∀ q ∈ l, precedence.get p < precedence.get q → R p q) : (joinWaitList precedence p l).Pairwise R := by
  induction l with
  | nil => exact List.pairwise_singleton R p
  | cons q rest ih =>
    obtain ⟨least, sorted⟩ := List.pairwise_cons.mp sorted
    obtain ⟨first, ordered'⟩ := List.pairwise_cons.mp ordered
    unfold joinWaitList
    split
    · next le =>
      refine List.pairwise_cons.mpr ⟨fun r m => ?_, ih sorted ordered' (fun r m => behind r (List.mem_cons_of_mem _ m))
        fun r m => before r (List.mem_cons_of_mem _ m)⟩
      rcases List.mem_cons.mp ((joinWaitList_perm precedence p rest).mem_iff.mp m) with rfl | m
      · exact behind q List.mem_cons_self le
      · exact first r m
    · next lt =>
      refine List.pairwise_cons.mpr ⟨fun r m => before r m ?_, ordered⟩
      rcases List.mem_cons.mp m with rfl | m
      · exact lt_of_not_ge lt
      · exact (lt_of_not_ge lt).trans_le (least r m)

/-- A request that parks joins the wait list behind its equals, the latest of them (R38, R53). -/
theorem LeaseLaws.park {s : State} (h : LeaseLaws s) {p : Port} (r : LeaseRequest) (active : s.globalState ≠ .setup)
    (idle : (s.leaseSlots.get p).waiting = none) (quota : s.windowCount p < s.quotaOf p) : LeaseLaws (s.park p r) := by
  have own : ∃ w, ((s.park p r).leaseSlots.get p).waiting = some w ∧ w.parkTime = s.parkings := by
    simp [State.park, State.record]
  have other {q : Port} (ne : q ≠ p) : (s.park p r).leaseSlots.get q = s.leaseSlots.get q := by
    unfold State.park
    rw [State.record, State.onLease_get_of_ne _ _ ne, State.onLease_get_of_ne _ _ ne]
  have list : (s.park p r).waitList = joinWaitList s.precedence p s.waitList := rfl
  have out : p ∉ s.waitList := by rw [h.wait.waiting, idle]; simp
  obtain ⟨new, hnew, latest⟩ := own
  have ne {q : Port} (m : q ∈ s.waitList) : q ≠ p := fun e => out (e ▸ m)
  have sorted : s.waitList.Pairwise fun q r => s.precedence.get q ≤ s.precedence.get r :=
    h.wait.ordered.imp_of_mem fun {q r} mq mr ahead => by
      obtain ⟨w, hw⟩ := Option.isSome_iff_exists.mp ((h.wait.waiting q).mp mq)
      obtain ⟨v, hv⟩ := Option.isSome_iff_exists.mp ((h.wait.waiting r).mp mr)
      exact (ahead w v hw hv).elim le_of_lt fun e => e.1.le
  exact
    { quota :=
        { within := h.quota.within
          waiting := fun q e => by
            by_cases eq : q = p
            · rw [eq]; exact quota
            · exact h.quota.waiting q (other eq ▸ e) }
      overlap := h.overlap
      wait :=
        { waiting := fun q => by
            rw [list, (joinWaitList_perm _ _ _).mem_iff, List.mem_cons]
            by_cases eq : q = p
            · simp [eq, hnew]
            · rw [other eq, ← h.wait.waiting]; simp [eq]
          nodup := by
            rw [list, (joinWaitList_perm _ _ _).nodup_iff]
            exact List.nodup_cons.mpr ⟨out, h.wait.nodup⟩
          ordered := by
            rw [list]
            refine joinWaitList_pairwise sorted (h.wait.ordered.imp_of_mem fun {q r} mq mr ahead w v hw hv => ?_)
              (fun q m le w v hw hv => ?_) fun q m lt w v hw hv => .inl lt
            · exact ahead w v (other (ne mq) ▸ hw) (other (ne mr) ▸ hv)
            · rw [hnew] at hv
              cases hv
              rw [latest]
              exact le.lt_or_eq.imp_right fun e => ⟨e, h.wait.parked q w (other (ne m) ▸ hw)⟩
          parked := fun q w hw => by
            refine Nat.lt_succ_of_le ?_
            by_cases eq : q = p
            · rw [eq, hnew] at hw
              cases hw
              exact latest.le
            · exact (h.wait.parked q w (other eq ▸ hw)).le }
      setup :=
        { reset := h.setup.reset
          table := h.setup.table
          waitList := fun e => absurd e active } }

/-! ### Grants (R31, R32, R48) -/

theorem regionsOverlap_comm (a b : Region) : regionsOverlap a b = regionsOverlap b a := by
  unfold regionsOverlap
  rw [Bool.eq_iff_iff]
  simp only [Bool.and_eq_true, decide_eq_true_eq]
  omega

/-- A predicate that one place more of a list without repetitions meets. -/
theorem countP_le_succ {α : Type} {l : List α} (distinct : l.Nodup) {P Q : α → Bool} {a : α}
    (most : ∀ b ∈ l, Q b = true → b ≠ a → P b = true) : l.countP Q ≤ l.countP P + 1 := by
  rw [List.countP_eq_length_filter, List.countP_eq_length_filter, ← List.length_cons (a := a)]
  refine ((distinct.filter Q).subperm fun b m => ?_).length_le
  obtain ⟨m, hQ⟩ := List.mem_filter.mp m
  by_cases e : b = a
  · exact List.mem_cons.mpr (.inl e)
  · exact List.mem_cons_of_mem _ (List.mem_filter.mpr ⟨m, most b m hQ e⟩)

/-- A grant to an IDLE port below its quota, of a FREE slot, without conflicts (R41, R48). -/
theorem LeaseLaws.grant {s : State} (h : LeaseLaws s) {p : Port} {r : LeaseRequest} {i : SlotNo}
    (active : s.globalState ≠ .setup) (clear : s.conflictSet p r = []) (quota : s.windowCount p < s.quotaOf p)
    (idle : (s.leaseSlots.get p).waiting = none) : LeaseLaws (s.onSlot i (Slot.grant p r)) := by
  let t := s.onSlot i (Slot.grant p r)
  have window {j : SlotNo} {w : Window} (hw : (t.slot j).live = some w) :
      (s.slot j).live = some w ∧ j ≠ i ∨ j = i ∧ w.owner = p ∧ w.layer = r.layer ∧ w.region = r.region := by
    by_cases e : j = i
    · subst e
      rw [State.onSlot_slot_self] at hw
      cases hw
      exact .inr ⟨rfl, rfl, rfl, rfl⟩
    · exact .inl ⟨State.onSlot_slot_of_ne s (Slot.grant p r) e ▸ hw, e⟩
  have apart {j : SlotNo} {w : Window} (hw : (s.slot j).live = some w) (owner : w.owner ≠ p) (layer : w.layer = r.layer) :
      regionsOverlap w.region r.region = false := by
    refine Bool.eq_false_iff.mpr fun overlap => ?_
    have m := (mem_conflictSet s p r j).mpr ⟨w, hw, owner, layer, overlap⟩
    rw [clear] at m
    cases m
  have count (q : Port) : t.windowCount q ≤ s.windowCount q + if q = p then 1 else 0 := by
    have old (j : SlotNo) (ne : q = p → j ≠ i) (own : (t.slot j).live.any (fun w => w.owner == q) = true) :
        (s.slot j).live.any (fun w => w.owner == q) = true := by
      obtain ⟨w, hw, owner⟩ := (Option.any_eq_true _ _).mp own
      rcases window hw with ⟨same, -⟩ | ⟨at_, new, -⟩
      · exact (Option.any_eq_true _ _).mpr ⟨w, same, owner⟩
      · exact absurd at_ (ne ((beq_iff_eq.mp owner).symm.trans new))
    by_cases e : q = p
    · rw [if_pos e]
      exact countP_le_succ allSlots_nodup fun j _ own ne => old j (fun _ => ne) own
    · rw [if_neg e]
      exact List.countP_mono_left fun j _ own => old j (fun e' => absurd e' e) own
  exact
    { quota :=
        { within := fun q => by
            refine (count q).trans ?_
            by_cases e : q = p
            · rw [if_pos e, e]; exact quota
            · rw [if_neg e]; exact h.quota.within q
          waiting := fun q waits => by
            have ne : q ≠ p := fun e => by
              have idle' : (t.leaseSlots.get p).waiting = none := idle
              rw [e, idle'] at waits
              cases waits
            refine (count q).trans_lt ?_
            rw [if_neg ne]
            exact h.quota.waiting q waits }
      overlap := fun j k w v hw hv owners layers => by
        rcases window hw with ⟨hw, -⟩ | ⟨-, owner, layer, region⟩ <;>
          rcases window hv with ⟨hv, -⟩ | ⟨-, owner', layer', region'⟩
        · exact h.overlap j k w v hw hv owners layers
        · rw [region']
          exact apart hw (owner' ▸ owners) (layers.trans layer')
        · rw [region, regionsOverlap_comm]
          exact apart hv (owner ▸ owners.symm) (layers ▸ layer)
        · exact absurd (owner.trans owner'.symm) owners
      wait := ⟨h.wait.waiting, h.wait.nodup, h.wait.ordered, h.wait.parked⟩
      setup := ⟨h.setup.reset, fun e => absurd e active, fun e => absurd e active⟩ }

/-! ### Revocations and the evaluation of the wait list (R47, R54 to R56) -/

theorem Revocations.kept {s t : State} {l : List SlotNo} (r : Revocations s t l)
    (was : ∀ i ∈ l, (s.slot i).live.isSome = true) : LeaseKept s t :=
  .of_slots (fun _ => ⟨fun w hw => ⟨w, (r.live was hw).2, rfl, rfl, rfl⟩, r.free was⟩)
    (congrArg State.leaseSlots r.rest :) (congrArg State.waitList r.rest :) (congrArg State.parkings r.rest :)

theorem revokeAll_frame (s : State) (l : List SlotNo) (preemptor : Option Port) : LeaseFrame s (s.revokeAll l preemptor) :=
  foldl_frame (fun t i => t.revoke i preemptor) (fun t i => revoke_frame t i preemptor) l s

theorem preempted_kept (s : State) (p : Port) (r : LeaseRequest) : LeaseKept s (s.preempted p r) :=
  (preempted_spec s p r).kept fun _ => conflictSet_live

theorem preempted_frame (s : State) (p : Port) (r : LeaseRequest) : LeaseFrame s (s.preempted p r) := revokeAll_frame s _ _

theorem takeCommit_deviceReset (s : State) (p : Port) : (s.takeCommit p).deviceReset = s.deviceReset := by
  unfold State.takeCommit
  split
  · split
    · simp only []
      split <;> rfl
    · rfl
  · rfl

theorem clearWriteCompletion_deviceReset (s : State) : s.clearWriteCompletion.deviceReset = s.deviceReset := by
  unfold State.clearWriteCompletion
  split
  · unfold State.advanceClear
    split <;> rfl
  · rfl

section Events

variable {s : State} (h : LeaseLaws s)
include h

theorem LeaseLaws.preempted (p : Port) (r : LeaseRequest) : LeaseLaws (s.preempted p r) :=
  h.kept (preempted_kept s p r) (preempted_frame s p r).logic

theorem LeaseLaws.active_of_waiting {p : Port} {w : WaitingRequest} (waits : (s.leaseSlots.get p).waiting = some w) :
    s.globalState ≠ .setup := fun setup => by
  have m := (h.wait.waiting p).mpr (by rw [waits]; rfl)
  rw [h.setup.waitList setup] at m
  cases m

/-- The waiting request's own quota leaves room for its window (R31). -/
theorem LeaseLaws.evaluateOne (p : Port) : LeaseLaws (s.evaluateOne p).1 := by
  rcases evaluateOne_cases s p with same | ⟨w, i, waiting, -, granted⟩
  · rw [same]; exact h
  rw [granted]
  have clear : ((s.preempted p w.request).unwait p).conflictSet p w.request = [] := preempted_conflictSet s p w.request
  have waits := (preempted_kept s p w.request).isSome p
  have laws := h.preempted p w.request
  have active := h.active_of_waiting waiting
  rw [← (preempted_frame s p w.request).globalState] at active
  generalize s.preempted p w.request = v at clear waits laws active
  rw [waiting] at waits
  have idle : ((v.unwait p).leaseSlots.get p).waiting = none := by simp [State.unwait]
  exact (((laws.unwait p).grant (i := i) active clear (laws.quota.waiting p waits) idle).record p _ _ _).post p _

theorem LeaseLaws.evaluateWaitList : LeaseLaws s.evaluateWaitList :=
  evaluateWaitList_keeps (P := LeaseLaws) (fun _ p k => k.evaluateOne p) h

/-! ### Lease operations (R41 to R58) -/

theorem LeaseLaws.request (p : Port) : LeaseLaws (s.request p) := by
  rcases request_cases s p with ⟨result, refused⟩ | ⟨r, run, idle, staged, quota, parks | decided⟩
  · rw [refused]; exact h.record p _ _ _
  · have active : s.globalState ≠ .setup := by rw [run]; decide
    rw [parks]; exact h.park r active idle quota
  obtain ⟨i, -, -, granted⟩ := request_granted run idle staged quota decided
  have clear := preempted_conflictSet s p r
  have kept := preempted_kept s p r
  have laws := h.preempted p r
  have frame := preempted_frame s p r
  generalize s.preempted p r = v at granted clear kept laws frame
  have active : v.globalState ≠ .setup := by rw [frame.globalState, run]; decide
  have room : v.windowCount p < v.quotaOf p := by
    rw [State.quotaOf, frame.config]; exact (kept.windowCount p).trans_lt quota
  have idle' : (v.leaseSlots.get p).waiting = none := by
    have none := kept.isSome p
    rwa [idle, Option.isSome_none, Option.isSome_eq_false_iff, Option.isNone_iff_eq_none] at none
  have held := (laws.grant (i := i) active clear room idle').record p .request .granted (some ⟨i, (v.slot i).generation + 1⟩)
  rw [granted]
  simp only []
  split
  · exact held
  · exact held.evaluateWaitList

theorem LeaseLaws.release (p : Port) (n : Handle) : LeaseLaws (s.release p n) := by
  refine h.kept ?_ (release_frame s p n).logic
  unfold State.release
  split
  · exact record_kept _ _ _ _ _
  · next w checked =>
    have held := checkLease_held checked
    have drains : (s.slot n.slot).Kept { s.slot n.slot with state := .draining w false } :=
      .of_live (.inl (by rw [Slot.live, Slot.live, held])) fun free => by rw [held] at free; cases free
    exact (onSlot_kept drains).trans (record_kept _ _ _ _ _)

theorem LeaseLaws.setVisible (p : Port) (n : Handle) (v : Bool) : LeaseLaws (s.setVisible p n v) := by
  refine h.kept ?_ (setVisible_frame s p n v).logic
  unfold State.setVisible
  split
  · exact record_kept _ _ _ _ _
  · next w checked =>
    have held := checkLease_held checked
    split
    · have shown : (s.slot n.slot).Kept { s.slot n.slot with state := .held { w with visible := v } } :=
        { live := fun u hu => by cases hu; exact ⟨w, by rw [Slot.live, held], rfl, rfl, rfl⟩
          free := fun free => by rw [held] at free; cases free }
      exact (onSlot_kept shown).trans (record_kept _ _ _ _ _)
    · exact record_kept _ _ _ _ _

theorem LeaseLaws.cancel (p : Port) : LeaseLaws (s.cancel p) := by
  unfold State.cancel
  split
  · exact h.record p _ _ _
  · split
    · exact (h.unwait p).record p _ _ _
    · exact h.record p _ _ _

theorem LeaseLaws.timeoutLease (p : Port) : LeaseLaws (s.timeoutLease p) := by
  unfold State.timeoutLease
  split
  · exact ((h.unwait p).record p _ _ _).post p _
  · exact h

theorem LeaseLaws.leaseOp (p : Port) (o : LeaseOpWord) : LeaseLaws (s.leaseOp p o) := by
  unfold State.leaseOp
  split
  · exact h.request p
  · split
    · exact h.release p _
    · split
      · exact h.setVisible p _ _
      · exact h.cancel p

/-! ### Detach, departures and the frame start (R25, R28, R34, R63) -/

theorem LeaseLaws.detach (p : Port) : LeaseLaws (s.detach p) := by
  have withdrawn : LeaseKept (s.unwait p) (s.withdrawn p) := by
    refine ⟨fun _ => .refl _, fun q => ?_, rfl, rfl⟩
    by_cases e : q = p
    · subst e; simp [State.withdrawn, State.unwait, LeaseSlot.reset]
    · unfold State.withdrawn State.unwait
      rw [State.onBuffer_leaseSlots, State.onLease_get_of_ne _ _ e, State.onLease_get_of_ne _ _ e]
  have frame : LogicFrame (s.unwait p) (s.withdrawn p) := by constructor <;> rfl
  have revoked : LeaseLaws (s.dispossessed p) := ((h.unwait p).kept withdrawn frame).kept
    ((dispossessed_spec s p).kept (ownedSlots_live s p)) (dispossessed_frame s p).logic
  have after : LeaseView (s.dispossessed p) (s.detached p) ∧ LogicFrame (s.dispossessed p) (s.detached p) := by
    unfold State.detached
    exact ⟨⟨rfl, rfl, rfl, rfl⟩, by constructor <;> rfl⟩
  have detached := revoked.view after.1 after.2
  rw [detach_eq]
  split
  · exact detached.evaluateWaitList
  · exact detached

theorem LeaseLaws.departed (e : Entry) : LeaseLaws (s.departed e) := by
  obtain ⟨slots, -, -, -, rest⟩ := afterLeave_spec s e
  have kept : LeaseKept s (s.afterLeave e) := by
    refine .of_slots (fun j => ?_) (congrArg State.leaseSlots rest :) (congrArg State.waitList rest :)
      (congrArg State.parkings rest :)
    rw [slots]
    split
    · next same =>
      have leave : (s.slot e.handle.slot).Kept (s.slot e.handle.slot).leave := .of_live (.inl rfl) id
      rw [same]; exact leave.trans (Slot.freed_kept _)
    · exact .refl _
  have frame : LeaseFrame s (s.afterLeave e) := (((onSlot_frame s _ _).trans (freeingCheck_frame _ _)).trans
    (signalDeparture_frame _)).trans (completeMarkers_frame _ _)
  have left := h.kept kept frame.logic
  rw [departed_eq]
  split
  · exact left.evaluateWaitList
  · exact left

theorem LeaseLaws.passFrame : LeaseLaws s.passFrame := by
  obtain ⟨slots, -, rest⟩ := freeingChecks_spec allSlots_nodup s.framePassed
  have frame := foldl_frame State.freeingCheck freeingCheck_frame allSlots s.framePassed
  have slot (i : SlotNo) : (allSlots.foldl State.freeingCheck s.framePassed).slot i = (s.slot i).passFrame.freed := by
    rw [slots, if_pos (mem_allSlots i), framePassed_slot]
  rw [passFrame_eq]
  generalize allSlots.foldl State.freeingCheck s.framePassed = u at rest frame slot
  obtain ⟨table, same⟩ : ∃ table, s.framePassed = { s with table := table } := ⟨_, rfl⟩
  rw [same] at rest frame
  have kept : LeaseKept s u := by
    refine .of_slots (fun i => ?_) (congrArg State.leaseSlots rest :) (congrArg State.waitList rest :)
      (congrArg State.parkings rest :)
    rw [slot]
    exact (Slot.passFrame_kept _).trans (Slot.freed_kept _)
  have set : LogicFrame s { s with table := table } := by constructor <;> rfl
  have freed := h.kept kept (set.trans frame.logic)
  split
  · exact freed.evaluateWaitList
  · exact freed

theorem LeaseLaws.frameStart : LeaseLaws s.frameStart := by
  unfold State.frameStart
  split
  · refine LeaseLaws.view ?_ (postAll_table _ _).toLeaseView (postAll_frame _ _).logic
    exact h.passFrame.view (onComposer_table _ _).toLeaseView (onComposer_unwritten _ _).toLogicFrame
  · exact h

/-! ### The buffer's events -/

theorem LeaseLaws.onBuffer (f : Buffer → Buffer) : LeaseLaws (s.onBuffer f) :=
  h.view (onBuffer_view s f) (onBuffer_event s f).logic

theorem LeaseLaws.freeChannel : LeaseLaws s.freeChannel :=
  h.view (freeChannel_table s).toLeaseView (freeChannel_unwritten s).toLogicFrame

theorem LeaseLaws.underfillCompletion : LeaseLaws s.underfillCompletion := by
  unfold State.underfillCompletion
  split
  · unfold State.completeUnderfill
    split
    · split
      · exact (h.freeChannel.onBuffer _).departed _
      · exact h.freeChannel.onBuffer _
    · exact h.freeChannel
  · exact h

theorem LeaseLaws.blockWriteCompletion : LeaseLaws s.blockWriteCompletion := by
  unfold State.blockWriteCompletion
  split
  · next v b _ =>
    have stored := h.freeChannel.view (writeBlock_table _ b v).toLeaseView (writeBlock_logic _ b v)
    unfold State.completeBlockWrite
    split
    · exact (stored.onBuffer _).departed _
    · exact stored
  · exact h

theorem LeaseLaws.grantEvent {t : State} (e : s.grantEvent = .next t) : LeaseLaws t := by
  refine h.view ?_ (grantEvent_unwritten e).toLogicFrame
  unfold State.grantEvent at e
  split at e
  · split at e
    · unfold State.startAccess at e
      split at e <;> cases e
      unfold State.takeGrant
      split
      · exact ⟨rfl, rfl, rfl, rfl⟩
      · exact ⟨rfl, rfl, rfl, rfl⟩
      · split <;> exact ⟨rfl, rfl, rfl, rfl⟩
      · exact ⟨rfl, rfl, rfl, rfl⟩
    · cases e; exact .refl s
  · cases e; exact .refl s

theorem LeaseLaws.fenceTake (p : Port) : LeaseLaws (s.fenceTake p) := by
  refine h.view ?_ (fenceTake_event s p).logic
  unfold State.fenceTake
  split
  · split
    · rw [completeMarkers_eq]; exact ⟨rfl, rfl, rfl, rfl⟩
    · exact .refl s
  · exact .refl s

theorem LeaseLaws.spanPost : LeaseLaws s.spanPost := by
  refine h.kept ?_ (spanPost_event s).logic
  unfold State.spanPost
  split
  · split
    · split
      · unfold State.postSpan
        split
        · exact (endFault_table _ _ _ _ _).toLeaseView.kept
        · exact (onEngine_table _ _).toLeaseView.kept
        · exact ((onBuffer_view s _).trans (finishWriting_table _ _ _ _).toLeaseView).kept
        · have allocated (o : SpanPost) (owner : Port) : LeaseKept s (s.allocatePost o owner) :=
            (onBuffer_view s _).kept.trans (onSlot_kept (.of_live (.inl rfl) id))
          exact (allocated _ _).trans (finishWriting_table _ _ _ _).toLeaseView.kept
      · exact (LeaseView.refl s).kept
    · exact (LeaseView.refl s).kept
  · exact (LeaseView.refl s).kept

/-! ### Start-up -/

theorem LeaseLaws.writeConfig (p : Port) (f : ConfigField) (w : Word) : LeaseLaws (s.writeConfig p f w) := by
  unfold State.writeConfig
  split
  · next setup => exact h.of_setup setup ⟨rfl, rfl, rfl, rfl⟩ fun _ => setup
  · exact h.view (onPort_table s p _).toLeaseView (onPort_event s p _).logic

theorem LeaseLaws.takeCommit (p : Port) (released : s.deviceReset = false) : LeaseLaws (s.takeCommit p) := by
  by_cases setup : s.globalState = .setup
  · refine h.of_setup setup (takeCommit_table s p).toLeaseView fun reset => ?_
    rw [takeCommit_deviceReset, released] at reset
    cases reset
  · rw [takeCommit_locked setup]
    exact h.view (onPort_table s p _).toLeaseView (onPort_event s p _).logic

theorem LeaseLaws.clearWriteCompletion (released : s.deviceReset = false) : LeaseLaws s.clearWriteCompletion := by
  obtain ⟨config, -, -, precedence⟩ := clearWriteCompletion_keeps s
  refine h.of_kept (clearWriteCompletion_table s).toLeaseView.kept config precedence (fun reset => ?_) fun setup => ?_
  · rw [clearWriteCompletion_deviceReset, released] at reset
    cases reset
  · by_contra moved
    have run := (clearWriteCompletion_globalState (s := s) (by rw [setup]; exact fun e => moved e.symm)).1
    rw [setup] at run
    cases run

theorem LeaseLaws.sampleStraps (straps : Straps) (held : s.deviceReset = true) : LeaseLaws (s.sampleStraps straps) :=
  h.of_setup (h.setup.reset held) ⟨rfl, rfl, rfl, rfl⟩ fun reset => by cases reset

theorem LeaseLaws.tick : LeaseLaws s.tick := by
  have frame : LogicFrame s s.tick := by constructor <;> rfl
  have kept : LeaseKept s s.tick := by
    refine ⟨fun _ => .refl _, fun p => ?_, rfl, rfl⟩
    have ticked : s.tick.leaseSlots.get p = (s.leaseSlots.get p).tick := by cases p <;> rfl
    rw [ticked, LeaseSlot.tick, Option.map_map]
    rfl
  exact h.kept kept frame

/-! ### Every command -/

theorem LeaseLaws.writeControl (p : Port) (w : Word) : LeaseLaws (s.writeControl p w) := by
  unfold State.writeControl
  split
  · exact h.detach p
  · split
    · exact h.view (abort_table s p).toLeaseView (abort_event s p).logic
    · exact h

theorem LeaseLaws.writeRegister (p : Port) (r : Register) (w : Word) (released : s.deviceReset = false) :
    LeaseLaws (s.writeRegister p r w) := by
  cases r with
  | cmdHandle | cmdRegionXY | cmdRegionWH | cmdRopMask | cmdColour | cmdFgBg | cmdPattern0 | cmdPattern1 | cmdOrigin
  | cmdSrcHandle | cmdSrcXY | cmdSrcKey | leaseLayerRights | leaseRegionXY | leaseRegionWH | leaseVisKey | leaseFlags
  | intEnable | noticeEnable => exact h.view ⟨rfl, rfl, rfl, rfl⟩ (by constructor <;> rfl)
  | submit => exact h.view (submit_table s p _).toLeaseView (submit_event s p _).logic
  | leaseOp => exact h.leaseOp p _
  | uploadPush => exact h.view (pushUpload_table s p w).toLeaseView (pushUpload_event s p w).logic
  | control => exact h.writeControl p w
  | config f => exact h.writeConfig p f w
  | commit => exact h.takeCommit p released
  | submitResult | leaseResult | leaseHandle | readbackPop | noticeWord0 | noticeWord1 | portStatus | fifoStatus
  | accessError | lossCount | portInfo | pixelsWritten | pixelsKeyed | commandsDone | commandsFaulted | merges
  | fullForwards | underfills | voided | underruns | frames | commitResult | globalState => exact h

theorem LeaseLaws.writeOffset (p : Port) (offset : BitVec 8) (w : Word) (released : s.deviceReset = false) :
    LeaseLaws (s.writeOffset p offset w) := by
  unfold State.writeOffset
  split
  · exact h.writeRegister p _ w released
  · exact h.view (onPort_table s p _).toLeaseView (onPort_event s p _).logic

end Events

theorem assertReset_leaseLaws (s : State) : LeaseLaws s.assertReset :=
  .of_empty (fun i => by rw [assertReset_slot]) reset_waiting rfl fun _ => rfl

/-- Every command keeps the Lease Manager's laws. -/
theorem LeaseLaws.exec {s t : State} {c : Instr} (h : LeaseLaws s) (e : exec c s = .next t) : LeaseLaws t := by
  have write {p : Port} {f : State → State} (e : .next (writeAccess s p f) = (.next t : Host.Outcome State Fault Refusal))
      (hf : s.deviceReset = false → LeaseLaws (f s)) : LeaseLaws t := by
    cases e
    exact writeAccess_of h fun taken => hf (deviceReset_of_taken taken)
  have own {f : State → State} (e : .next (ownEvent s f) = (.next t : Host.Outcome State Fault Refusal))
      (hf : s.deviceReset = false → LeaseLaws (f s)) : LeaseLaws t := by
    cases e
    exact ownEvent_of h hf
  cases table : touchesTable c with
  | false =>
    cases logic : touchesLogic c with
    | false => exact h.view (exec_table table e).toLeaseView (exec_unwritten logic e).toLogicFrame
    | true =>
      cases c with
      | deviceResetEnd straps =>
        cases e
        split
        · next held => exact h.sampleStraps straps held
        · exact h
      | configWrite p f w => exact write e fun _ => h.writeConfig p f w
      | commit p w => exact write e (h.takeCommit p)
      | clearWriteCompletion => exact own e h.clearWriteCompletion
      | deviceReset | registerWrite | blockWriteCompletion => cases table
      | _ => cases logic
  | true =>
    cases c with
    | deviceReset => cases e; exact assertReset_leaseLaws s
    | portReset p level =>
      have pin {u : State} (k : LeaseLaws u) (f : HostPort → HostPort) : LeaseLaws (u.onPort p f) :=
        k.view (onPort_table u p f).toLeaseView (onPort_event u p f).logic
      simp only [Machine.exec, execPortReset] at e
      split at e
      · cases e; exact h
      · cases level with
        | released => cases e; exact pin h _
        | asserted => cases e; exact pin (ownEvent_of h fun _ => h.detach p) _
    | request p => exact write e fun _ => h.request p
    | release p n => exact write e fun _ => h.release p n
    | setVisible p n v => exact write e fun _ => h.setVisible p n v
    | cancel p => exact write e fun _ => h.cancel p
    | detach p abortToo => cases abortToo <;> exact write e fun _ => h.detach p
    | registerWrite p offset w => exact write e (h.writeOffset p offset w)
    | leaseTimeout p => exact own e fun _ => h.timeoutLease p
    | frameStart => exact own e fun _ => h.frameStart
    | grantEvent =>
      simp only [Machine.exec, execGrantEvent] at e
      split at e
      · cases e; exact h
      · exact h.grantEvent e
    | underfillCompletion => exact own e fun _ => h.underfillCompletion
    | blockWriteCompletion => exact own e fun _ => h.blockWriteCompletion
    | fenceTake p => exact own e fun _ => h.fenceTake p
    | spanPost => exact own e fun _ => h.spanPost
    | _ => cases table

/-- Settles O58: a command runs with the queue's rest, which no law reads, and a tick moves remaining times alone. -/
theorem leaseLawsKept : Obligations.LeaseLawsKept := by
  intro s t h e
  unfold step at e
  split at e
  · next c rest _ =>
    have rested : LeaseLaws { s with pending := rest } := h.view ⟨rfl, rfl, rfl, rfl⟩ (by constructor <;> rfl)
    exact rested.exec e
  · cases e
    exact h.tick

end Sys2Proof.Machine
end

section
/-! SUPPORT. The laws that tie the Pending-Write Buffer to the window table, kept by every step. They are restated slot by slot
and port by port; each change of the age order then has one rule (R26, R110, R122, R130). -/

namespace Sys2Proof.Machine

open Sys2Proof.Claims

/-! ### The laws slot by slot and port by port -/

/-- OPEN, CLOSED or FILLING: an entry that stands under a HELD or DRAINING window (R110, R122). -/
def Entry.unwritten (e : Entry) : Prop := e.state = .opened ∨ e.state = .closed ∨ e.state = .filling

/-- The slot is the one that the entry's handle names, under a window of the entry's port. -/
structure Slot.Carries (sl : Slot) (e : Entry) : Prop where
  generation : e.handle.generation = sl.generation
  window : ∃ w, sl.window = some w ∧ w.owner = e.port
  live : e.unwritten → sl.live.isSome = true

/-- `es` are the entries of a slot: as many as are outstanding, and carried by it. -/
structure Slot.Accounts (sl : Slot) (es : List Entry) : Prop where
  outstanding : sl.outstanding = es.length
  carries : ∀ e ∈ es, sl.Carries e

/-- The entries of an age order whose handles name slot `i`. -/
def entriesUnder (i : SlotNo) (items : List AgeItem) : List Entry :=
  (items.filterMap AgeItem.entry?).filter fun e => e.handle.slot == i

/-- Whether an item of port `p` is an entry or a marker; none for an item of another port. -/
def AgeItem.isEntryOf (p : Port) : AgeItem → Option Bool
  | .entry e => if e.port = p then some true else none
  | .marker m => if m.port = p then some false else none

/-- The age order as port `p` sees it: its own entries and markers. -/
def ageView (p : Port) (items : List AgeItem) : List Bool := items.filterMap (AgeItem.isEntryOf p)

/-- No marker of port `p` stands ahead of its entries. -/
def Settled (p : Port) (items : List AgeItem) : Prop := (ageView p items).head? ≠ some false

/-- The laws over the slots of a table and an age order. -/
structure AgeLaws (slot : SlotNo → Slot) (items : List AgeItem) : Prop where
  accounts : ∀ i, (slot i).Accounts (entriesUnder i items)
  settled : ∀ p, Settled p items

theorem mem_entriesUnder {i : SlotNo} {items : List AgeItem} {e : Entry} :
    e ∈ entriesUnder i items ↔ e ∈ items.filterMap AgeItem.entry? ∧ e.handle.slot = i := by
  rw [entriesUnder, List.mem_filter, beq_iff_eq]

theorem ageView_entry (p : Port) (e : Entry) (rest : List AgeItem) :
    ageView p (.entry e :: rest) = if e.port = p then true :: ageView p rest else ageView p rest := by
  by_cases h : e.port = p <;> simp [ageView, AgeItem.isEntryOf, h]

theorem ageView_marker (p : Port) (m : Marker) (rest : List AgeItem) :
    ageView p (.marker m :: rest) = if m.port = p then false :: ageView p rest else ageView p rest := by
  by_cases h : m.port = p <;> simp [ageView, AgeItem.isEntryOf, h]

theorem completing_eq_nil_iff_settled (p : Port) (items : List AgeItem) : completing p items = [] ↔ Settled p items := by
  unfold Settled
  induction items with
  | nil => simp [completing, beforeEntries, ageView]
  | cons it rest ih =>
    cases it with
    | entry e => by_cases own : e.port = p <;> simp [completing_entry, ageView_entry, own, ih]
    | marker m => by_cases own : m.port = p <;> simp [completing_marker, ageView_marker, own, ih]

theorem markerLaw_iff (s : State) : MarkerLaw s ↔ ∀ p, Settled p s.buffer.items :=
  forall_congr' fun p => (completing_eq_nil_iff p _).symm.trans (completing_eq_nil_iff_settled p _)

/-- Where every entry has its slot's generation, the entries under a handle are those that name its slot. -/
theorem countP_handle {slot : SlotNo → Slot} {items : List AgeItem}
    (generation : ∀ e ∈ items.filterMap AgeItem.entry?, e.handle.generation = (slot e.handle.slot).generation) (i : SlotNo) :
    (items.filterMap AgeItem.entry?).countP (fun e => e.handle == ⟨i, (slot i).generation⟩) =
      (entriesUnder i items).length := by
  rw [entriesUnder, ← List.countP_eq_length_filter]
  refine List.countP_congr fun e m => ?_
  rw [beq_iff_eq, beq_iff_eq]
  refine ⟨fun h => by rw [h], fun h => ?_⟩
  subst h
  rw [← generation e m]

theorem bufferLaws_iff (s : State) : BufferLaws s ↔ AgeLaws s.slot s.buffer.items := by
  constructor
  · intro h
    refine ⟨fun i => ⟨?_, fun e m => ?_⟩, (markerLaw_iff s).mp h.markers⟩
    · rw [← countP_handle h.outstanding.generation]; exact h.outstanding.counts i
    · obtain ⟨mem, rfl⟩ := mem_entriesUnder.mp m
      obtain ⟨window, live⟩ := h.entries e mem
      exact ⟨h.outstanding.generation e mem, window, live⟩
  · intro h
    have carried (e : Entry) (m : e ∈ s.buffer.entries) : (s.slot e.handle.slot).Carries e :=
      (h.accounts e.handle.slot).carries e (mem_entriesUnder.mpr ⟨m, rfl⟩)
    refine ⟨⟨fun i => ?_, fun e m => (carried e m).generation, fun i free => ?_⟩,
      fun e m => ⟨(carried e m).window, (carried e m).live⟩, (markerLaw_iff s).mpr h.settled⟩
    · exact (h.accounts i).outstanding.trans (countP_handle (fun e m => (carried e m).generation) i).symm
    · rw [(h.accounts i).outstanding, List.length_eq_zero_iff, List.eq_nil_iff_forall_not_mem]
      intro e m
      obtain ⟨w, window, -⟩ := ((h.accounts i).carries e m).window
      rw [(Slot.window_eq_none_iff _).mpr free] at window
      cases window

/-! ### Rules for a slot -/

theorem Slot.Accounts.perm {sl : Slot} {es es' : List Entry} (h : sl.Accounts es) (p : es.Perm es') : sl.Accounts es' :=
  ⟨h.outstanding.trans p.length_eq, fun e m => h.carries e (p.mem_iff.mpr m)⟩

theorem Slot.Accounts.nil {sl : Slot} (h : sl.outstanding = 0) : sl.Accounts [] := ⟨h, fun _ m => by cases m⟩

theorem Slot.Accounts.eq_nil {sl : Slot} {es : List Entry} (h : sl.Accounts es) (none : sl.outstanding = 0) : es = [] :=
  List.length_eq_zero_iff.mp (h.outstanding.symm.trans none)

/-- A FREE slot has no entries. -/
theorem Slot.Accounts.eq_nil_of_free {sl : Slot} {es : List Entry} (h : sl.Accounts es) (free : sl.state = .free) : es = [] :=
  List.eq_nil_iff_forall_not_mem.mpr fun e m => by
    obtain ⟨w, window, -⟩ := (h.carries e m).window
    rw [(Slot.window_eq_none_iff _).mpr free] at window
    cases window

/-- A change of a slot that keeps its count, generation, owner and whether it is HELD or DRAINING. -/
theorem Slot.Accounts.of_same {a b : Slot} {es : List Entry} (h : a.Accounts es) (outstanding : b.outstanding = a.outstanding)
    (generation : b.generation = a.generation) (owner : b.window.map Window.owner = a.window.map Window.owner)
    (live : b.live.isSome = a.live.isSome) : b.Accounts es := by
  refine ⟨outstanding.trans h.outstanding, fun e m => ?_⟩
  obtain ⟨same, ⟨w, window, port⟩, unwritten⟩ := h.carries e m
  rw [window, Option.map_some] at owner
  obtain ⟨v, hv, same'⟩ := Option.map_eq_some_iff.mp owner
  exact ⟨same.trans generation.symm, ⟨v, hv, same'.trans port⟩, fun u => live.trans (unwritten u)⟩

theorem Slot.Accounts.freed {sl : Slot} {es : List Entry} (h : sl.Accounts es) : sl.freed.Accounts es := by
  by_cases may : sl.mayFree = true
  · have none := ((Slot.mayFree_iff sl).mp may).1
    rw [h.eq_nil none, Slot.freed, if_pos may]
    exact .nil none
  · rw [Slot.freed_of_not may]; exact h

theorem Slot.Accounts.passFrame {sl : Slot} {es : List Entry} (h : sl.Accounts es) : sl.passFrame.Accounts es := by
  refine h.of_same ?_ ?_ ?_ (by rw [Slot.passFrame_live])
  all_goals
    unfold Slot.passFrame
    cases state : sl.state <;> simp [Slot.window, state]

theorem Slot.Accounts.grant {sl : Slot} {es : List Entry} (h : sl.Accounts es) (free : sl.state = .free) (p : Port)
    (r : LeaseRequest) : (sl.grant p r).Accounts es := by
  rw [h.eq_nil_of_free free]
  exact .nil rfl

theorem Slot.Accounts.leave {sl : Slot} {e : Entry} {es : List Entry} (h : sl.Accounts (e :: es)) : sl.leave.Accounts es :=
  ⟨by rw [Slot.leave, h.outstanding]; rfl, fun e' m =>
    let c := h.carries e' (List.mem_cons_of_mem _ m)
    ⟨c.generation, c.window, c.live⟩⟩

/-! ### Rules for the entries of a slot -/

@[simp] theorem entriesUnder_append (i : SlotNo) (a b : List AgeItem) :
    entriesUnder i (a ++ b) = entriesUnder i a ++ entriesUnder i b := by simp [entriesUnder]

theorem entriesUnder_entry (i : SlotNo) (e : Entry) (rest : List AgeItem) : entriesUnder i (.entry e :: rest) =
    if e.handle.slot = i then e :: entriesUnder i rest else entriesUnder i rest := by
  by_cases h : e.handle.slot = i <;> simp [entriesUnder, h]

theorem entriesUnder_marker (i : SlotNo) (m : Marker) (rest : List AgeItem) :
    entriesUnder i (.marker m :: rest) = entriesUnder i rest := by simp [entriesUnder]

theorem entriesUnder_perm (i : SlotNo) (pre post : List AgeItem) (e : Entry) :
    (entriesUnder i (pre ++ .entry e :: post)).Perm
      (if e.handle.slot = i then e :: entriesUnder i (pre ++ post) else entriesUnder i (pre ++ post)) := by
  rw [entriesUnder_append, entriesUnder_append, entriesUnder_entry]
  split
  · exact List.perm_middle
  · exact .refl _

@[simp] theorem entriesUnder_withoutCompleting (i : SlotNo) (p : Port) (items : List AgeItem) :
    entriesUnder i (withoutCompleting p items) = entriesUnder i items := by
  rw [entriesUnder, entriesUnder, withoutCompleting_entries]

theorem Entry.voidFilling_same (h : Handle) (e : Entry) : (e.voidFilling h).handle = e.handle ∧ (e.voidFilling h).port = e.port := by
  unfold Entry.voidFilling
  split <;> exact ⟨rfl, rfl⟩

theorem entriesUnder_voidItems (i : SlotNo) (h : Handle) (items : List AgeItem) : entriesUnder i (voidItems h items) =
    ((entriesUnder i items).filter fun e => !Entry.leavesAtRevocation h e).map (Entry.voidFilling h) := by
  have same : (fun e : Entry => e.handle.slot == i) ∘ Entry.voidFilling h = fun e => e.handle.slot == i :=
    funext fun e => by rw [Function.comp, (Entry.voidFilling_same h e).1]
  rw [entriesUnder, entriesUnder, voidItems_entries_eq, List.filter_map, same, List.filter_filter, List.filter_filter]
  simp only [Bool.and_comm]

/-! ### Rules for the view of a port -/

@[simp] theorem ageView_append (p : Port) (a b : List AgeItem) : ageView p (a ++ b) = ageView p a ++ ageView p b :=
  List.filterMap_append

theorem ageView_withoutCompleting {p r : Port} (ne : r ≠ p) (items : List AgeItem) :
    ageView r (withoutCompleting p items) = ageView r items := by
  induction items with
  | nil => rfl
  | cons it rest ih =>
    cases it with
    | entry e => by_cases own : e.port = p <;> simp [withoutCompleting_entry, ageView_entry, own, ih]
    | marker m => by_cases own : m.port = p <;> simp [withoutCompleting_marker, ageView_marker, own, ih, ne.symm]

theorem settled_withoutCompleting (p : Port) (items : List AgeItem) : Settled p (withoutCompleting p items) := by
  unfold Settled
  induction items with
  | nil => simp [withoutCompleting, beforeEntries, ageView]
  | cons it rest ih =>
    cases it with
    | entry e => by_cases own : e.port = p <;> simp [withoutCompleting_entry, ageView_entry, own, ih]
    | marker m => by_cases own : m.port = p <;> simp [withoutCompleting_marker, ageView_marker, own, ih]

/-- Completing one port's markers settles it and leaves the other ports as they are. -/
theorem Settled.withoutCompleting {p : Port} {items : List AgeItem} (others : ∀ r, r ≠ p → Settled r items) (r : Port) :
    Settled r (withoutCompleting p items) := by
  by_cases e : r = p
  · rw [e]; exact settled_withoutCompleting p items
  · unfold Settled
    rw [ageView_withoutCompleting e]
    exact others r e

/-- Items that a port does not own can leave without a change to its view. -/
theorem ageView_filter {p : Port} {keep : AgeItem → Bool} {items : List AgeItem}
    (other : ∀ it ∈ items, keep it = false → it.isEntryOf p = none) : ageView p (items.filter keep) = ageView p items := by
  unfold ageView
  rw [List.filterMap_filter]
  refine List.filterMap_congr fun it m => ?_
  cases kept : keep it with
  | true => rfl
  | false => exact (other it m kept).symm

/-- A voiding under a handle of another port's window, or one under which nothing leaves, keeps a port's view. -/
theorem ageView_voidItems {p : Port} {h : Handle} {items : List AgeItem}
    (other : ∀ e ∈ items.filterMap AgeItem.entry?, e.leavesAtRevocation h = true → e.port ≠ p) :
    ageView p (voidItems h items) = ageView p items := by
  have same : AgeItem.isEntryOf p ∘ AgeItem.onEntry (Entry.voidFilling h) = AgeItem.isEntryOf p := by
    funext it
    cases it with
    | entry e => simp [AgeItem.onEntry, AgeItem.isEntryOf, (Entry.voidFilling_same h e).2]
    | marker m => rfl
  have mapped : ageView p (voidItems h items) =
      ageView p (items.filter fun it => !(it.entry?.any (Entry.leavesAtRevocation h))) := by
    unfold ageView voidItems
    rw [List.filterMap_map, same]
  rw [mapped]
  refine ageView_filter fun it m gone => ?_
  cases it with
  | entry e =>
    have leaves : e.leavesAtRevocation h = true := by simpa [AgeItem.entry?] using gone
    have mem : e ∈ items.filterMap AgeItem.entry? := List.mem_filterMap.mpr ⟨_, m, rfl⟩
    simp [AgeItem.isEntryOf, other e mem leaves]
  | marker k => simp [AgeItem.entry?] at gone

theorem settled_dropMarkers {p : Port} {items : List AgeItem} (h : ∀ r, Settled r items) (r : Port) :
    Settled r (dropMarkers p items) := by
  by_cases e : r = p
  · subst e
    intro head
    obtain ⟨it, m, mark⟩ := List.mem_filterMap.mp (List.mem_of_head? head)
    have stays := (List.mem_filter.mp m).2
    cases it with
    | entry e => simp [AgeItem.isEntryOf] at mark
    | marker k =>
      have own : k.port = r := by simpa [AgeItem.isEntryOf] using mark
      simp [AgeItem.marker?, own] at stays
  · unfold Settled dropMarkers
    rw [ageView_filter fun it _ gone => ?_]
    · exact h r
    · cases it with
      | entry e' => simp [AgeItem.marker?] at gone
      | marker k =>
        have own : k.port = p := by simpa [AgeItem.marker?] using gone
        simp [AgeItem.isEntryOf, own, Ne.symm e]

/-! ### Rules for the laws -/

section Rules

variable {slot slot' : SlotNo → Slot} {items : List AgeItem}

theorem AgeLaws.slots (h : AgeLaws slot items) (k : ∀ i es, (slot i).Accounts es → (slot' i).Accounts es) :
    AgeLaws slot' items := ⟨fun i => k i _ (h.accounts i), h.settled⟩

/-- The slot that an entry names carries it. -/
theorem AgeLaws.carries (h : AgeLaws slot items) {e : Entry} (m : e ∈ items.filterMap AgeItem.entry?) :
    (slot e.handle.slot).Carries e := (h.accounts _).carries e (mem_entriesUnder.mpr ⟨m, rfl⟩)

/-- An entry changed in its place. -/
theorem AgeLaws.change {pre post : List AgeItem} {e e' : Entry} (h : AgeLaws slot (pre ++ .entry e :: post))
    (handle : e'.handle = e.handle) (port : e'.port = e.port)
    (live : e'.unwritten → (slot e.handle.slot).live.isSome = true) : AgeLaws slot (pre ++ .entry e' :: post) where
  accounts i := by
    have old := (h.accounts i).perm (entriesUnder_perm i pre post e)
    refine Slot.Accounts.perm ?_ (entriesUnder_perm i pre post e').symm
    rw [handle]
    split at old
    · next here =>
      rw [if_pos here]
      refine ⟨old.outstanding, fun x m => ?_⟩
      rcases List.mem_cons.mp m with rfl | m
      · obtain ⟨generation, window, -⟩ := old.carries e List.mem_cons_self
        exact ⟨handle ▸ generation, port ▸ window, here ▸ live⟩
      · exact old.carries x (List.mem_cons_of_mem _ m)
    · next there => rw [if_neg there]; exact old
  settled p := by
    have old := h.settled p
    unfold Settled at old ⊢
    rwa [ageView_append, ageView_entry, port, ← ageView_entry, ← ageView_append]

/-- An entry gone from the age order, with the leave message, the freeing check and the markers of its port. -/
theorem AgeLaws.remove {pre post : List AgeItem} {e : Entry} (h : AgeLaws slot (pre ++ .entry e :: post))
    (changed : ∀ i, slot' i = if i = e.handle.slot then (slot e.handle.slot).leave.freed else slot i) :
    AgeLaws slot' (withoutCompleting e.port (pre ++ post)) where
  accounts i := by
    have old := (h.accounts i).perm (entriesUnder_perm i pre post e)
    rw [entriesUnder_withoutCompleting, changed]
    split at old
    · next here => rw [if_pos here.symm, here]; exact old.leave.freed
    · next there => rw [if_neg (Ne.symm there)]; exact old
  settled := Settled.withoutCompleting fun r ne => by
    have old := h.settled r
    unfold Settled at old ⊢
    rwa [ageView_append, ageView_entry, if_neg ne.symm, ← ageView_append] at old

/-- A new entry at the young end, counted in its slot. -/
theorem AgeLaws.append (h : AgeLaws slot items) {e : Entry} (carries : (slot e.handle.slot).Carries e)
    (changed : ∀ i, slot' i = if i = e.handle.slot then
      { slot e.handle.slot with outstanding := (slot e.handle.slot).outstanding + 1 } else slot i) :
    AgeLaws slot' (items ++ [.entry e]) where
  accounts i := by
    have old := h.accounts i
    rw [entriesUnder_append, entriesUnder_entry, changed]
    by_cases here : i = e.handle.slot
    · subst here
      rw [if_pos rfl, if_pos rfl]
      refine ⟨by simp [old.outstanding, entriesUnder], fun x m => ?_⟩
      have c : (slot e.handle.slot).Carries x := by
        rcases List.mem_append.mp m with m | m
        · exact old.carries x m
        · rw [List.mem_singleton.mp m]; exact carries
      exact ⟨c.generation, c.window, c.live⟩
    · rw [if_neg here, if_neg (Ne.symm here)]
      simpa [entriesUnder] using old
  settled p := by
    have old := h.settled p
    unfold Settled at old ⊢
    rw [ageView_append, List.head?_append]
    cases head : (ageView p items).head? with
    | none => by_cases own : e.port = p <;> simp [ageView, AgeItem.isEntryOf, own]
    | some b => rw [head] at old; simpa using old

/-- A marker placed at the young end, completed at once where no entry of its port is present. -/
theorem AgeLaws.fence (h : AgeLaws slot items) (m : Marker) :
    AgeLaws slot (withoutCompleting m.port (items ++ [.marker m])) where
  accounts i := by
    rw [entriesUnder_withoutCompleting, entriesUnder_append, entriesUnder_marker]
    simpa [entriesUnder] using h.accounts i
  settled := Settled.withoutCompleting fun r ne => by
    have old := h.settled r
    have nothing : ageView r [.marker m] = [] := by rw [ageView_marker, if_neg ne.symm]; rfl
    unfold Settled at old ⊢
    rwa [ageView_append, nothing, List.append_nil]

theorem AgeLaws.dropMarkers (h : AgeLaws slot items) (p : Port) : AgeLaws slot (dropMarkers p items) where
  accounts i := by
    rw [entriesUnder, dropMarkers_entries]
    exact h.accounts i
  settled := settled_dropMarkers h.settled

/-! ### Changes of the oldest and the youngest entry -/

theorem found_split {q : Entry → Bool} {e : Entry} (found : (items.filterMap AgeItem.entry?).find? q = some e) :
    ∃ pre post, items = pre ++ .entry e :: post ∧ removeOldest q items = pre ++ post ∧
      ∀ f, changeOldest q f items = pre ++ .entry (f e) :: post := by
  induction items with
  | nil => cases found
  | cons it rest ih =>
    cases it with
    | entry x =>
      rw [entries_entry] at found
      cases hit : q x with
      | true =>
        rw [List.find?_cons_of_pos hit] at found
        cases found
        exact ⟨[], rest, rfl, by simp [removeOldest, hit], fun f => by simp [changeOldest, hit]⟩
      | false =>
        rw [List.find?_cons_of_neg (by simp [hit])] at found
        obtain ⟨pre, post, rfl, removed, changed⟩ := ih found
        exact ⟨.entry x :: pre, post, rfl, by simp [removeOldest, hit, removed], fun f => by simp [changeOldest, hit, changed]⟩
    | marker k =>
      rw [entries_marker] at found
      obtain ⟨pre, post, rfl, removed, changed⟩ := ih found
      exact ⟨.marker k :: pre, post, rfl, by simp [removeOldest, removed], fun f => by simp [changeOldest, changed]⟩

theorem changeOldest_of_none {q : Entry → Bool} (none : (items.filterMap AgeItem.entry?).find? q = none)
    (f : Entry → Entry) : changeOldest q f items = items := by
  induction items with
  | nil => rfl
  | cons it rest ih =>
    cases it with
    | entry x =>
      rw [entries_entry, List.find?_eq_none] at none
      have hit : q x = false := by simpa using none x List.mem_cons_self
      simp [changeOldest, hit, ih (List.find?_eq_none.mpr fun e m => none e (List.mem_cons_of_mem _ m))]
    | marker k => rw [entries_marker] at none; simp [changeOldest, ih none]

theorem mem_of_found {q : Entry → Bool} {e : Entry} (found : (items.filterMap AgeItem.entry?).find? q = some e) :
    e ∈ items.filterMap AgeItem.entry? := List.mem_of_find?_eq_some found

/-- The oldest entry of a kind changed, where the laws of its slot allow its new state. -/
theorem AgeLaws.changeOldest (h : AgeLaws slot items) {q : Entry → Bool} {f : Entry → Entry}
    (handle : ∀ e, (f e).handle = e.handle) (port : ∀ e, (f e).port = e.port)
    (live : ∀ e, (items.filterMap AgeItem.entry?).find? q = some e → (f e).unwritten → e.unwritten) :
    AgeLaws slot (changeOldest q f items) := by
  cases found : (items.filterMap AgeItem.entry?).find? q with
  | none => rw [changeOldest_of_none found]; exact h
  | some e =>
    have carried := h.carries (mem_of_found found)
    have unwritten := live e found
    obtain ⟨pre, post, rfl, -, changed⟩ := found_split found
    rw [changed]
    exact h.change (handle e) (port e) fun u => carried.live (unwritten u)

/-- The youngest entry of a kind changed, its state as before or one that is not OPEN, CLOSED or FILLING. -/
theorem AgeLaws.changeYoungest (h : AgeLaws slot items) {q : Entry → Bool} {f : Entry → Entry}
    (handle : ∀ e, (f e).handle = e.handle) (port : ∀ e, (f e).port = e.port)
    (live : ∀ e, (f e).unwritten → e.unwritten) : AgeLaws slot (changeYoungest q f items) := by
  unfold Machine.changeYoungest
  cases found : (items.reverse.filterMap AgeItem.entry?).find? q with
  | none => rw [changeOldest_of_none found, List.reverse_reverse]; exact h
  | some e =>
    have m := mem_of_found found
    rw [List.filterMap_reverse, List.mem_reverse] at m
    have carried := h.carries m
    obtain ⟨pre, post, reversed, -, changed⟩ := found_split found
    have split : items = post.reverse ++ .entry e :: pre.reverse := by
      rw [← items.reverse_reverse, reversed]; simp
    rw [split] at h
    have shape : (pre ++ .entry (f e) :: post).reverse = post.reverse ++ .entry (f e) :: pre.reverse := by simp
    rw [changed, shape]
    exact h.change (handle e) (port e) fun u => carried.live (live e u)

end Rules

end Sys2Proof.Machine
end

section
/-! SUPPORT. Every event keeps the laws that tie the Pending-Write Buffer to the window table (R26, R110, R122, R127, R130). -/

namespace Sys2Proof.Machine

open Sys2Proof.Claims

/-! ### Revocations (R24, R127) -/

section Revoked

variable {s t : State} {i : SlotNo} {w : Window} {passed : Bool} {preemptor : Option Port}

theorem Slot.revocable_window {sl : Slot} (h : sl.revocable w passed) : sl.window = some w := by
  rcases h with ⟨state, -⟩ | state <;> rw [Slot.window, state]

theorem Slot.revokedTo_window {sl : Slot} {n : Nat} (left : sl.outstanding - n ≠ 0) :
    (sl.revokedTo w passed n).window = some w := by
  simp [Slot.revokedTo, Slot.window, left]

/-- A handle's entry that stays at its revocation is WRITING or VOID then. -/
theorem Entry.voidFilling_written {h : Handle} {e : Entry} (handle : e.handle = h) (stays : e.leavesAtRevocation h = false) :
    ¬ (e.voidFilling h).unwritten := by
  rw [← Entry.leavesAmong_singleton] at stays
  have voided : e.voidFilling h = e.voidAmong [h] := by simp [Entry.voidFilling, Entry.voidAmong]
  rw [voided]
  have carried : (e.voidAmong [h]).handle ∈ [h] := by
    rw [← voided, (Entry.voidFilling_same h e).1, handle]; exact List.mem_singleton_self h
  rcases voidAmong_state stays carried with state | state <;> simp [Entry.unwritten, state]

/-- The entries of the revoked slot: those that stay, under its owner still (R24, R127). -/
theorem Slot.Accounts.revoked {sl : Slot} {es : List Entry} (a : sl.Accounts es) (at_ : ∀ e ∈ es, e.handle.slot = i)
    (revocable : sl.revocable w passed) :
    (sl.revokedTo w passed (es.countP (Entry.leavesAtRevocation ⟨i, sl.generation⟩))).Accounts
      ((es.filter fun e => !e.leavesAtRevocation ⟨i, sl.generation⟩).map (Entry.voidFilling ⟨i, sl.generation⟩)) := by
  let h : Handle := ⟨i, sl.generation⟩
  have count : sl.outstanding - es.countP (Entry.leavesAtRevocation h) =
      ((es.filter fun e => !e.leavesAtRevocation h).map (Entry.voidFilling h)).length := by
    rw [a.outstanding, List.length_map, ← List.countP_eq_length_filter,
      List.length_eq_countP_add_countP (Entry.leavesAtRevocation h) (l := es), Nat.add_sub_cancel_left]
    exact List.countP_congr fun e _ => by simp
  refine ⟨count, fun e' m => ?_⟩
  have left : sl.outstanding - es.countP (Entry.leavesAtRevocation h) ≠ 0 := by
    rw [count]; exact (List.length_pos_of_mem m).ne'
  obtain ⟨e, stays, rfl⟩ := List.mem_map.mp m
  obtain ⟨me, stays⟩ := List.mem_filter.mp stays
  obtain ⟨handle, port⟩ := Entry.voidFilling_same h e
  obtain ⟨generation, ⟨v, window, owner⟩, -⟩ := a.carries e me
  have own : e.handle = h := by
    show e.handle = ⟨i, sl.generation⟩
    rw [← at_ e me, ← generation]
  refine ⟨handle ▸ generation, ⟨w, Slot.revokedTo_window left, ?_⟩, fun u => ?_⟩
  · rw [Slot.revocable_window revocable] at window
    cases window
    exact owner.trans port.symm
  · exact absurd u (Entry.voidFilling_written own (by simpa using stays))

/-- The entries of another slot are none of the revoked handle's. -/
theorem entriesUnder_voidItems_of_ne {j : SlotNo} (ne : j ≠ i) (g : BitVec 8) (items : List AgeItem) :
    entriesUnder j (voidItems ⟨i, g⟩ items) = entriesUnder j items := by
  have other {e : Entry} (m : e ∈ entriesUnder j items) : e.handle ≠ ⟨i, g⟩ := fun h =>
    ne ((mem_entriesUnder.mp m).2.symm.trans (congrArg Handle.slot h))
  have stay : (entriesUnder j items).filter (fun e => !e.leavesAtRevocation ⟨i, g⟩) = entriesUnder j items :=
    List.filter_eq_self.mpr fun e m => by simp [Entry.leavesAtRevocation, other m]
  rw [entriesUnder_voidItems, stay]
  exact (List.map_congr_left fun e m => if_neg fun h => other m h.1).trans (List.map_id _)

theorem Revocation.ageLaws (r : Revocation s t i w passed preemptor) (revocable : (s.slot i).revocable w passed)
    (h : AgeLaws s.slot s.buffer.items) : AgeLaws t.slot t.buffer.items := by
  have under (j : SlotNo) : entriesUnder j t.buffer.items = entriesUnder j (voidItems (s.handle i) s.buffer.items) := by
    rw [r.items]
    split
    · rfl
    · exact entriesUnder_withoutCompleting _ _ _
  have leaves : s.leaving i = (entriesUnder i s.buffer.items).countP (Entry.leavesAtRevocation (s.handle i)) := by
    rw [entriesUnder, List.countP_filter]
    refine List.countP_congr fun e _ => ?_
    simp only [Entry.leavesAtRevocation, Bool.and_eq_true, beq_iff_eq]
    exact ⟨fun k => ⟨k, congrArg Handle.slot k.1⟩, And.left⟩
  have others (p : Port) (other : p ≠ w.owner ∨ s.leaving i = 0) :
      ageView p (voidItems (s.handle i) s.buffer.items) = ageView p s.buffer.items := by
    refine ageView_voidItems fun e m gone port => ?_
    rcases other with ne | none
    · have at_ : e.handle.slot = i := by
        have handle : e.handle = s.handle i := by
          simp only [Entry.leavesAtRevocation, Bool.and_eq_true, beq_iff_eq] at gone
          exact gone.1
        rw [handle]; rfl
      obtain ⟨v, window, owner⟩ := (h.carries m).window
      rw [at_, Slot.revocable_window revocable] at window
      cases window
      exact ne (port.symm.trans owner.symm)
    · exact absurd gone (by simpa using List.countP_eq_zero.mp none e m)
  refine ⟨fun j => ?_, ?_⟩
  · rw [under]
    by_cases e : j = i
    · subst e
      rw [r.slot, leaves, entriesUnder_voidItems]
      exact (h.accounts j).revoked (fun e m => (mem_entriesUnder.mp m).2) revocable
    · rw [r.others j e, State.handle, entriesUnder_voidItems_of_ne e]
      exact h.accounts j
  · have settled (p : Port) (other : p ≠ w.owner ∨ s.leaving i = 0) :
        Settled p (voidItems (s.handle i) s.buffer.items) := by
      unfold Settled
      rw [others p other]
      exact h.settled p
    rw [r.items]
    split
    · next none => exact fun p => settled p (.inr none)
    · exact Settled.withoutCompleting fun p ne => settled p (.inl ne)

end Revoked

/-! ### Rules for the part -/

theorem BufferLaws.age {s : State} (h : BufferLaws s) : AgeLaws s.slot s.buffer.items := (bufferLaws_iff s).mp h

/-- A change of slots that lets each carry the same entries. -/
theorem BufferLaws.slots {s t : State} (h : BufferLaws s) (items : t.buffer.items = s.buffer.items)
    (k : ∀ i es, (s.slot i).Accounts es → (t.slot i).Accounts es) : BufferLaws t := by
  rw [bufferLaws_iff, items]
  exact h.age.slots k

/-- A change of the age order alone. -/
theorem BufferLaws.of_items {s t : State} (table : t.table = s.table) (h : AgeLaws s.slot t.buffer.items) : BufferLaws t := by
  rw [bufferLaws_iff]
  exact h.slots fun i es a => by rw [State.slot_of_table table]; exact a

theorem BufferLaws.of_table {s t : State} (h : BufferLaws s) (frame : TableFrame s t) : BufferLaws t :=
  h.slots frame.items fun i es a => by rw [State.slot_of_table frame.table]; exact a

/-- A drain begins on an OPEN or CLOSED entry. -/
theorem drainHead_of_arbitrate {s : State} (chosen : s.arbitrate = some .drain) {e : Entry} (head : s.buffer.drainHead = some e) :
    e.unwritten := by
  have stands : s.drainStands = true := by
    unfold State.arbitrate at chosen
    cases drain : s.drainStands with
    | true => rfl
    | false =>
      rw [drain] at chosen
      split at chosen
      · cases chosen
      · simp only [Bool.and_false, Bool.false_eq_true, if_false] at chosen
        split at chosen
        · cases chosen
        · split at chosen <;> cases chosen
  unfold State.drainStands at stands
  rw [head] at stands
  simp only [Bool.and_eq_true, Bool.or_eq_true, beq_iff_eq] at stands
  exact stands.1.elim .inl fun closed => .inr (.inl closed)

section Lease

variable {s : State} (h : BufferLaws s)
include h

/-- A change of one slot that lets it carry the same entries. -/
theorem BufferLaws.onSlot {i : SlotNo} {f : Slot → Slot} (k : ∀ es, (s.slot i).Accounts es → (f (s.slot i)).Accounts es) :
    BufferLaws (s.onSlot i f) := by
  refine h.slots rfl fun j es a => ?_
  rw [State.onSlot_slot]
  split
  · next e => subst e; exact k es a
  · exact a

theorem BufferLaws.onPort (p : Port) (f : HostPort → HostPort) : BufferLaws (s.onPort p f) := h.of_table (onPort_table s p f)

theorem BufferLaws.record (p : Port) (op : LeaseOperation) (result : LeaseResult) (n : Option Handle) :
    BufferLaws (s.record p op result n) := h.slots rfl fun _ _ a => a

theorem BufferLaws.unwait (p : Port) : BufferLaws (s.unwait p) := h.slots rfl fun _ _ a => a

theorem BufferLaws.revoke (i : SlotNo) (preemptor : Option Port) : BufferLaws (s.revoke i preemptor) := by
  have revoked {w : Window} {passed : Bool} (revocable : (s.slot i).revocable w passed) :
      BufferLaws (s.revoke i preemptor) :=
    (bufferLaws_iff _).mpr ((revoke_spec revocable preemptor).ageLaws revocable h.age)
  cases state : (s.slot i).state with
  | held w => exact revoked (.inl ⟨state, rfl⟩)
  | draining w passed => exact revoked (.inr state)
  | free | revoked => rw [State.revoke, state]; exact h

theorem BufferLaws.revokeAll (l : List SlotNo) (preemptor : Option Port) : BufferLaws (s.revokeAll l preemptor) := by
  unfold State.revokeAll
  induction l generalizing s with
  | nil => exact h
  | cons i l ih => exact ih (h.revoke i preemptor)

/-! ### Grants and the wait list (R22, R54) -/

theorem BufferLaws.grant {i : SlotNo} (free : (s.slot i).state = .free) (p : Port) (r : LeaseRequest) :
    BufferLaws (s.onSlot i (Slot.grant p r)) := h.onSlot fun _ a => a.grant free p r

theorem BufferLaws.evaluateOne (p : Port) : BufferLaws (s.evaluateOne p).1 := by
  rcases evaluateOne_cases s p with same | ⟨w, i, -, free, granted⟩
  · rw [same]; exact h
  · have laws : BufferLaws (s.preempted p w.request) := h.revokeAll _ _
    rw [granted]
    generalize s.preempted p w.request = v at free laws
    exact (((laws.grant free p w.request).unwait p).record p _ _ _).onPort p _

theorem BufferLaws.evaluateWaitList : BufferLaws s.evaluateWaitList :=
  evaluateWaitList_keeps (P := BufferLaws) (fun _ p k => k.evaluateOne p) h

theorem BufferLaws.request (p : Port) : BufferLaws (s.request p) := by
  rcases request_cases s p with ⟨result, refused⟩ | ⟨r, run, idle, staged, quota, parks | decided⟩
  · rw [refused]; exact h.record p _ _ _
  · rw [parks]; exact h.slots rfl fun _ _ a => a
  obtain ⟨i, free, -, granted⟩ := request_granted run idle staged quota decided
  have laws : BufferLaws (s.preempted p r) := h.revokeAll _ _
  generalize s.preempted p r = v at free granted laws
  have held := (laws.grant free p r).record p .request .granted (some ⟨i, (v.slot i).generation + 1⟩)
  rw [granted]
  simp only []
  split
  · exact held
  · exact held.evaluateWaitList

theorem BufferLaws.release (p : Port) (n : Handle) : BufferLaws (s.release p n) := by
  unfold State.release
  split
  · exact h.record p _ _ _
  · next w checked =>
    have held := checkLease_held checked
    refine (h.onSlot fun es a => a.of_same rfl rfl ?_ ?_).record p _ _ _
    · rw [Slot.window, Slot.window, held]
    · rw [Slot.live, Slot.live, held]

theorem BufferLaws.setVisible (p : Port) (n : Handle) (v : Bool) : BufferLaws (s.setVisible p n v) := by
  unfold State.setVisible
  split
  · exact h.record p _ _ _
  · next w checked =>
    have held := checkLease_held checked
    split
    · refine (h.onSlot fun es a => a.of_same rfl rfl ?_ ?_).record p _ _ _
      · rw [Slot.window, Slot.window, held]; rfl
      · rw [Slot.live, Slot.live, held]; rfl
    · exact h.record p _ _ _

theorem BufferLaws.cancel (p : Port) : BufferLaws (s.cancel p) := by
  unfold State.cancel
  split
  · exact h.record p _ _ _
  · split
    · exact (h.unwait p).record p _ _ _
    · exact h.record p _ _ _

theorem BufferLaws.timeoutLease (p : Port) : BufferLaws (s.timeoutLease p) := by
  unfold State.timeoutLease
  split
  · exact ((h.unwait p).record p _ _ _).onPort p _
  · exact h

theorem BufferLaws.leaseOp (p : Port) (o : LeaseOpWord) : BufferLaws (s.leaseOp p o) := by
  unfold State.leaseOp
  split
  · exact h.request p
  · split
    · exact h.release p _
    · split
      · exact h.setVisible p _ _
      · exact h.cancel p

/-! ### Detach and the frame start (R25, R34, R134) -/

theorem BufferLaws.detach (p : Port) : BufferLaws (s.detach p) := by
  have withdrawn : BufferLaws (s.withdrawn p) := .of_items (s := s) rfl (h.age.dropMarkers p)
  have revoked : BufferLaws (s.dispossessed p) := withdrawn.revokeAll _ _
  have after : TableFrame (s.dispossessed p) (s.detached p) := by
    unfold State.detached
    exact ⟨⟨rfl, rfl, rfl, rfl⟩, rfl⟩
  have detached := revoked.of_table after
  rw [detach_eq]
  split
  · exact detached.evaluateWaitList
  · exact detached

theorem BufferLaws.passFrame : BufferLaws s.passFrame := by
  obtain ⟨slots, -, rest⟩ := freeingChecks_spec allSlots_nodup s.framePassed
  have slot (i : SlotNo) : (allSlots.foldl State.freeingCheck s.framePassed).slot i = (s.slot i).passFrame.freed := by
    rw [slots, if_pos (mem_allSlots i), framePassed_slot]
  rw [passFrame_eq]
  generalize allSlots.foldl State.freeingCheck s.framePassed = u at rest slot
  obtain ⟨table, same⟩ : ∃ table, s.framePassed = { s with table := table } := ⟨_, rfl⟩
  rw [same] at rest
  have buffer : u.buffer = s.buffer := (congrArg State.buffer rest :)
  have freed : BufferLaws u := h.slots (congrArg Buffer.items buffer) fun i es a => by
    rw [slot]
    exact a.passFrame.freed
  split
  · exact freed.evaluateWaitList
  · exact freed

theorem BufferLaws.frameStart : BufferLaws s.frameStart := by
  unfold State.frameStart
  split
  · exact (h.passFrame.of_table (onComposer_table _ _)).of_table (postAll_table _ _)
  · exact h

/-! ### Completions (R123 to R125, R128) -/

/-- The departure of an entry that has gone from its place in the age order. -/
theorem BufferLaws.departed {t : State} {pre post : List AgeItem} {e : Entry} (table : t.table = s.table)
    (items : s.buffer.items = pre ++ .entry e :: post) (gone : t.buffer.items = pre ++ post) : BufferLaws (t.departed e) := by
  obtain ⟨slots, -, left, -, -⟩ := afterLeave_spec t e
  have laws : BufferLaws (t.afterLeave e) := by
    rw [bufferLaws_iff, left, gone]
    have age := h.age
    rw [items] at age
    exact age.remove fun i => by rw [slots, State.slot_of_table table, State.slot_of_table table]
  rw [departed_eq]
  split
  · exact laws.evaluateWaitList
  · exact laws

theorem BufferLaws.completeUnderfill (v : Block) : BufferLaws (s.completeUnderfill v) := by
  unfold State.completeUnderfill
  split
  · next e found =>
    obtain ⟨pre, post, items, removed, -⟩ := found_split found
    split
    · exact h.departed rfl items removed
    · next filling =>
      have same (e : Entry) : (e.underfilled v).handle = e.handle ∧ (e.underfilled v).port = e.port := by
        simp [Entry.underfilled]
      refine .of_items (s := s) rfl (h.age.changeOldest (q := Entry.awaitsUnderfill) (f := Entry.underfilled v)
        (fun e => (same e).1) (fun e => (same e).2) fun e' found' _ => ?_)
      cases found.symm.trans found'
      have awaits := List.find?_some found
      simp only [Entry.awaitsUnderfill, Bool.or_eq_true, beq_iff_eq] at awaits
      exact .inr (.inr (awaits.resolve_right filling))
  · exact h

theorem BufferLaws.underfillCompletion : BufferLaws s.underfillCompletion := by
  unfold State.underfillCompletion
  split
  · exact (h.of_table (freeChannel_table s)).completeUnderfill _
  · exact h

theorem BufferLaws.blockWriteCompletion : BufferLaws s.blockWriteCompletion := by
  unfold State.blockWriteCompletion
  split
  · next v b _ =>
    have stored := h.of_table ((freeChannel_table s).trans (writeBlock_table _ b v))
    unfold State.completeBlockWrite
    split
    · next e found =>
      obtain ⟨pre, post, items, removed, -⟩ := found_split found
      exact stored.departed rfl items removed
    · exact stored
  · exact h

/-! ### The drain (R121, R122) -/

theorem BufferLaws.takeGrant {q : Requester} (chosen : s.arbitrate = some q) (a : Option Access) :
    BufferLaws { s.takeGrant q with channel := a } := by
  cases q with
  | composer | engineRead | clear => exact h.slots rfl fun _ _ k => k
  | drain =>
    cases head : s.buffer.drainHead with
    | none => simp only [State.takeGrant, head]; exact h.slots rfl fun _ _ k => k
    | some e =>
      simp only [State.takeGrant, head]
      have same (x : Entry) : x.drainBegin.handle = x.handle ∧ x.drainBegin.port = x.port := by
        unfold Entry.drainBegin
        split <;> exact ⟨rfl, rfl⟩
      refine .of_items (s := s) rfl (h.age.changeOldest (fun x => (same x).1) (fun x => (same x).2) fun x found _ => ?_)
      exact drainHead_of_arbitrate chosen found

theorem BufferLaws.grantEvent {t : State} (e : s.grantEvent = .next t) : BufferLaws t := by
  unfold State.grantEvent at e
  split at e
  · next q _ chosen =>
    split at e
    · unfold State.startAccess at e
      split at e <;> cases e
      exact h.takeGrant chosen _
    · cases e; exact h
  · cases e; exact h

/-! ### Markers and posts (R77, R113 to R115) -/

theorem BufferLaws.fenceTake (p : Port) : BufferLaws (s.fenceTake p) := by
  unfold State.fenceTake
  split
  · split
    · next token _ =>
      rw [completeMarkers_eq]
      exact .of_items (s := s) rfl (h.age.fence ⟨p, token⟩)
    · exact h
  · exact h

theorem BufferLaws.mergePost (o : SpanPost) : BufferLaws (s.mergePost o) := by
  have same (e : Entry) : (e.merge o).handle = e.handle ∧ (e.merge o).port = e.port ∧ (e.merge o).state = e.state := by
    simp [Entry.merge]
  have merged := h.age.changeYoungest (q := fun e => e.block == o.block) (fun e => (same e).1) (fun e => (same e).2.1)
    fun e u => by rwa [Entry.unwritten, (same e).2.2] at u
  exact .of_items (s := s) rfl merged

theorem BufferLaws.allocatePost {o : SpanPost} (holds : s.holds o.handle = true) (default : Port) :
    BufferLaws (s.allocatePost o (s.ownerOf o.handle default)) := by
  simp only [State.holds, Bool.and_eq_true, beq_iff_eq] at holds
  obtain ⟨generation, held⟩ := holds
  obtain ⟨w, state⟩ : ∃ w, (s.slot o.handle.slot).state = .held w := by
    unfold Slot.heldWindow at held
    split at held
    · next w state => exact ⟨w, state⟩
    · cases held
  have close (e : Entry) : e.close.handle = e.handle ∧ e.close.port = e.port ∧ (e.close.unwritten → e.unwritten) := by
    unfold Entry.close
    split
    · next opened => exact ⟨rfl, rfl, fun _ => .inl opened⟩
    · exact ⟨rfl, rfl, id⟩
  have closed := h.age.changeYoungest (q := fun e => e.block == o.block) (fun e => (close e).1) (fun e => (close e).2.1)
    fun e => (close e).2.2
  refine (bufferLaws_iff _).mpr (closed.append ⟨generation.symm, ⟨w, ?_, ?_⟩, fun _ => ?_⟩ fun i => State.onSlot_slot _ _ i _)
  · rw [Slot.window, state]
  · rw [State.ownerOf, Slot.window, state]
  · rw [Slot.live, state]; rfl

theorem BufferLaws.postSpan (a : ActiveCommand) (q : SpanPosition) : BufferLaws (s.postSpan a q) := by
  unfold State.postSpan
  split
  · exact h.of_table (endFault_table _ _ _ _ _)
  · exact h.of_table (onEngine_table _ _)
  · exact (h.mergePost _).of_table (finishWriting_table _ _ _ _)
  · next allocated =>
    have holds : s.holds (a.post q).handle = true := by
      by_contra lost
      rw [State.postOutcome, if_neg lost] at allocated
      cases allocated
    exact (h.allocatePost holds a.port).of_table (finishWriting_table _ _ _ _)

theorem BufferLaws.spanPost : BufferLaws s.spanPost := by
  unfold State.spanPost
  split
  · split
    · split
      · exact h.postSpan _ _
      · exact h
    · exact h
  · exact h

/-! ### Every command -/

theorem BufferLaws.writeOffset (p : Port) (offset : BitVec 8) (w : Word) : BufferLaws (s.writeOffset p offset w) := by
  unfold State.writeOffset
  split
  · next r _ =>
    by_cases lease : r = .leaseOp
    · rw [lease]; exact h.leaseOp p _
    by_cases control : r = .control
    · rw [control]
      show BufferLaws (s.writeControl p w)
      unfold State.writeControl
      split
      · exact h.detach p
      · split
        · exact h.of_table (abort_table s p)
        · exact h
    exact h.of_table (writeRegister_table lease control)
  · exact h.onPort p _

end Lease

theorem assertReset_bufferLaws (s : State) : BufferLaws s.assertReset where
  outstanding :=
    { counts := fun i => by rw [assertReset_slot]; rfl
      generation := fun e m => by cases m
      free := fun i _ => by rw [assertReset_slot] }
  entries e m := by cases m
  markers _ := rfl

/-- Every command keeps the buffer's laws. -/
theorem BufferLaws.exec {s t : State} {c : Instr} (h : BufferLaws s) (e : exec c s = .next t) : BufferLaws t := by
  have write {p : Port} {f : State → State} (e : .next (writeAccess s p f) = (.next t : Host.Outcome State Fault Refusal))
      (hf : BufferLaws (f s)) : BufferLaws t := by
    cases e
    exact writeAccess_of h fun _ => hf
  have own {f : State → State} (e : .next (ownEvent s f) = (.next t : Host.Outcome State Fault Refusal))
      (hf : BufferLaws (f s)) : BufferLaws t := by
    cases e
    exact ownEvent_of h fun _ => hf
  cases table : touchesTable c with
  | false => exact h.of_table (exec_table table e)
  | true =>
    cases c with
    | deviceReset => cases e; exact assertReset_bufferLaws s
    | portReset p level =>
      simp only [Machine.exec, execPortReset] at e
      split at e
      · cases e; exact h
      · cases level with
        | released => cases e; exact h.onPort p _
        | asserted =>
          cases e
          have detached : BufferLaws (ownEvent s fun u => u.detach p) := ownEvent_of h fun _ => h.detach p
          exact detached.onPort p _
    | request p => exact write e (h.request p)
    | release p n => exact write e (h.release p n)
    | setVisible p n v => exact write e (h.setVisible p n v)
    | cancel p => exact write e (h.cancel p)
    | detach p abortToo => cases abortToo <;> exact write e (h.detach p)
    | registerWrite p offset w => exact write e (h.writeOffset p offset w)
    | leaseTimeout p => exact own e (h.timeoutLease p)
    | frameStart => exact own e h.frameStart
    | grantEvent =>
      simp only [Machine.exec, execGrantEvent] at e
      split at e
      · cases e; exact h
      · exact h.grantEvent e
    | underfillCompletion => exact own e h.underfillCompletion
    | blockWriteCompletion => exact own e h.blockWriteCompletion
    | fenceTake p => exact own e (h.fenceTake p)
    | spanPost => exact own e h.spanPost
    | _ => cases table

/-- Settles O57: a command runs with the queue's rest, and neither that nor a tick touches the table or the age order. -/
theorem bufferLawsKept : Obligations.BufferLawsKept := by
  intro s t h e
  unfold step at e
  split at e
  · next c rest _ =>
    have rested : BufferLaws { s with pending := rest } := h.of_table ⟨⟨rfl, rfl, rfl, rfl⟩, rfl⟩
    exact rested.exec e
  · cases e
    exact h.slots rfl fun _ _ a => a

end Sys2Proof.Machine
end

section
/-! SUPPORT. What a REQUEST is refused with and when it parks, what CANCEL and a lease timeout end, and what one tick of the
timebase leaves (R38 to R44, R52, R53, R57, R103). -/

namespace Sys2Proof.Machine

open Sys2Proof.Claims

/-! ### The staged request (R40, R42) -/

/-- The check of R42: the layer, the size, the place on the surface and the rights of the staged window. -/
theorem stagedRequest_eq_none_iff (w h : Nat) (l : LeaseStaging) : stagedRequest w h l = none ↔
    3 < l.layer.toNat ∨ l.width = 0 ∨ 2048 < l.width.toNat ∨ l.height = 0 ∨ 2048 < l.height.toNat ∨
      w < l.x.toNat + l.width.toNat ∨ h < l.y.toNat + l.height.toNat ∨
      (l.mayDraw = false ∧ l.mayRead = false ∧ l.mayShow = false) := by
  have width : l.width = 0 ↔ l.width.toNat = 0 := BitVec.toNat_eq
  have height : l.height = 0 ↔ l.height.toNat = 0 := BitVec.toNat_eq
  have rights : (l.mayDraw || l.mayRead || l.mayShow) = true ↔
      ¬ (l.mayDraw = false ∧ l.mayRead = false ∧ l.mayShow = false) := by
    cases l.mayDraw <;> cases l.mayRead <;> cases l.mayShow <;> decide
  unfold stagedRequest
  split
  · rw [width, height]
    split
    · next passes => rw [rights] at passes; grind
    · next fails => rw [rights] at fails; grind
  · exact iff_of_true rfl (.inl (by omega))

/-- A request that passes is the staged window with its key, flags and timeout (R40). -/
theorem stagedRequest_fields {w h : Nat} {l : LeaseStaging} {r : LeaseRequest} (e : stagedRequest w h l = some r) :
    r.layer.val = l.layer.toNat ∧ r.region = ⟨l.x.toNat, l.y.toNat, l.width.toNat, l.height.toNat⟩ ∧
      r.rights = ⟨l.mayDraw, l.mayRead, l.mayShow⟩ ∧ r.visible = l.visible ∧
      r.key = (if l.keyPresent then some l.keyValue else none) ∧ r.wait = l.wait ∧ r.preempt = l.preempt ∧
      r.timeout = l.timeout := by
  unfold stagedRequest at e
  split at e
  · split at e
    · cases e; exact ⟨rfl, rfl, rfl, rfl, rfl, rfl, rfl, rfl⟩
    · cases e
  · cases e

/-! ### What steps 5 to 7 of R41 decide -/

/-- Preemption cannot clear the conflict set of a request: PREEMPT is clear, or the owner of one of its windows has a precedence
number that is not greater (R46). -/
theorem clearable_eq_false_iff (s : State) (p : Port) (r : LeaseRequest) :
    s.clearable p r (s.conflictSet p r) = false ↔
      r.preempt = false ∨ ∃ i w, (s.slot i).live = some w ∧ i ∈ s.conflictSet p r ∧
        s.precedence.get w.owner ≤ s.precedence.get p := by
  rw [State.clearable, Bool.and_eq_false_iff, List.all_eq_false]
  refine or_congr_right ⟨?_, ?_⟩
  · rintro ⟨i, m, keeps⟩
    obtain ⟨w, hw⟩ := Option.isSome_iff_exists.mp (conflictSet_live m)
    exact ⟨i, w, hw, m, by simpa [hw] using keeps⟩
  · rintro ⟨i, w, hw, m, keeps⟩
    exact ⟨i, m, by simpa [hw] using keeps⟩

section Decision

variable {s : State} {p : Port} {r : LeaseRequest}

theorem decideGrant_of_full (full : ∀ i, (s.slot i).state ≠ .free) : s.decideGrant p r = .noSlot := by
  have none : s.lowestFree.isSome ≠ true := fun some => by
    obtain ⟨i, free⟩ := (lowestFree_isSome_iff s).mp some
    exact full i free
  rw [State.decideGrant, if_pos (by simpa using none)]

theorem decideGrant_of_free (free : ∃ i, (s.slot i).state = .free) : s.decideGrant p r =
    if (s.conflictSet p r).isEmpty then .granted []
    else if s.clearable p r (s.conflictSet p r) then .granted (s.conflictSet p r) else .conflict := by
  have some := (lowestFree_isSome_iff s).mpr free
  rw [State.decideGrant, if_neg (by simpa [Option.isSome_iff_ne_none] using some)]

theorem decideGrant_of_uncleared (free : ∃ i, (s.slot i).state = .free) (conflicts : s.conflictSet p r ≠ [])
    (uncleared : s.clearable p r (s.conflictSet p r) = false) : s.decideGrant p r = .conflict := by
  rw [decideGrant_of_free free, if_neg (by simpa using conflicts), uncleared, if_neg Bool.false_ne_true]

/-- A blocked request is decided NO_SLOT or CONFLICT (R41, R46). -/
theorem decideGrant_of_blocked (blocked : Blocked s p r) :
    s.decideGrant p r = .noSlot ∨ s.decideGrant p r = .conflict := by
  by_cases free : ∃ i, (s.slot i).state = .free
  · rcases blocked with full | ⟨conflicts, uncleared⟩
    · obtain ⟨i, hi⟩ := free
      exact absurd hi (full i)
    · exact .inr (decideGrant_of_uncleared free conflicts ((clearable_eq_false_iff s p r).mpr uncleared))
  · exact .inl (decideGrant_of_full (not_exists.mp free))

/-- A request that is not blocked is granted over the windows of its conflict set (R46, R47, R48). -/
theorem decideGrant_of_not_blocked (unblocked : ¬ Blocked s p r) : s.decideGrant p r = .granted (s.conflictSet p r) := by
  obtain ⟨notFull, cleared⟩ := not_or.mp unblocked
  have free : ∃ i, (s.slot i).state = .free := by simpa using notFull
  rw [decideGrant_of_free free]
  split
  · next empty => rw [List.isEmpty_iff.mp empty]
  · next conflicts =>
    have clear : s.clearable p r (s.conflictSet p r) = true := by
      rw [← Bool.not_eq_false, clearable_eq_false_iff]
      exact fun uncleared => cleared ⟨by simpa using conflicts, uncleared⟩
    rw [if_pos clear]

end Decision

/-! ### REQUEST (R41 to R44) -/

theorem exec_request {s : State} {p : Port} (taken : s.takes p) : exec (.request p) s = .next (s.request p) :=
  congrArg Host.Outcome.next (writeAccess_of_takes taken _)

section Request

variable {s : State} {p : Port}

theorem request_of_not_run (idles : s.globalState ≠ .run) : s.request p = s.record p .request .notReady none := by
  rw [State.request, if_pos (by simpa using idles)]

variable (run : s.globalState = .run)
include run

theorem request_of_waiting (waits : (s.leaseSlots.get p).waiting.isSome = true) :
    s.request p = s.record p .request .busy none := by
  simp [State.request, run, waits]

variable (idle : (s.leaseSlots.get p).waiting = none)
include idle

theorem request_of_unstaged (unstaged : stagedRequest s.surfaceWidth s.surfaceHeight (s.ports.get p).lease = none) :
    s.request p = s.record p .request .badRegion none := by
  simp [State.request, run, idle, unstaged]

variable {r : LeaseRequest} (staged : stagedRequest s.surfaceWidth s.surfaceHeight (s.ports.get p).lease = some r)
include staged

theorem request_of_quota_spent (spent : s.quotaOf p ≤ s.windowCount p) :
    s.request p = s.record p .request .noQuota none := by
  simp [State.request, run, idle, staged, spent]

variable (room : s.windowCount p < s.quotaOf p)
include room

theorem request_of_noSlot (decided : s.decideGrant p r = .noSlot) :
    s.request p = if r.wait then s.park p r else s.record p .request .noSlot none := by
  simp [State.request, run, idle, staged, Nat.not_le.mpr room, decided]

theorem request_of_conflict (decided : s.decideGrant p r = .conflict) :
    s.request p = if r.wait then s.park p r else s.record p .request .conflict none := by
  simp [State.request, run, idle, staged, Nat.not_le.mpr room, decided]

/-- A blocked request with WAIT parks (R43, R44). -/
theorem request_of_blocked (wait : r.wait = true) (blocked : Blocked s p r) : s.request p = s.park p r := by
  rcases decideGrant_of_blocked blocked with decided | decided
  · rw [request_of_noSlot run idle staged room decided, if_pos wait]
  · rw [request_of_conflict run idle staged room decided, if_pos wait]

end Request

/-- Settles O13: the checks of R41 one after the other, each refusal the record alone. -/
theorem requestRefusals : Obligations.RequestRefusals := by
  intro p s taken
  simp only [exec_request taken]
  refine ⟨fun idles => congrArg _ (request_of_not_run idles), fun run waits => congrArg _ (request_of_waiting run waits),
    fun run idle => ?_⟩
  split
  · next unstaged => exact congrArg _ (request_of_unstaged run idle unstaged)
  · next r staged =>
    refine ⟨fun spent => congrArg _ (request_of_quota_spent run idle staged spent), fun room noWait => ⟨fun full => ?_,
      fun free conflicts uncleared => ?_⟩⟩
    · rw [request_of_noSlot run idle staged room (decideGrant_of_full full), noWait]; rfl
    · rw [request_of_conflict run idle staged room
        (decideGrant_of_uncleared free conflicts ((clearable_eq_false_iff s p r).mpr uncleared)), noWait]; rfl

/-- Settles O14: the cases of R42 are those without a staged request, and any other gives the staged window. -/
theorem badRegionExactly : Obligations.BadRegionExactly := by
  intro p s taken run idle l bad
  have none : stagedRequest s.surfaceWidth s.surfaceHeight l = none ↔ bad := stagedRequest_eq_none_iff _ _ l
  refine ⟨fun hbad => ?_, fun good => ?_⟩
  · rw [exec_request taken, request_of_unstaged run idle (none.mpr hbad)]; rfl
  · obtain ⟨r, staged⟩ := Option.ne_none_iff_exists'.mp (mt none.mp good)
    obtain ⟨layer, region, flags⟩ := stagedRequest_fields staged
    obtain ⟨right, below⟩ := stagedRequest_inside staged
    exact ⟨r, staged, layer, region, right, below, flags⟩

/-! ### Parking (R38, R53) -/

/-- A port joins the wait list behind the smaller or equal precedence numbers at its head (R53). -/
theorem joinWaitList_eq (precedence : PerPort (Fin 4)) (p : Port) (l : List Port) : joinWaitList precedence p l =
    l.takeWhile (fun q => decide (precedence.get q ≤ precedence.get p)) ++
      p :: l.dropWhile (fun q => decide (precedence.get q ≤ precedence.get p)) := by
  induction l with
  | nil => rfl
  | cons q rest ih =>
    by_cases behind : precedence.get q ≤ precedence.get p
    · simp [joinWaitList, behind, ih]
    · simp [joinWaitList, behind]

theorem State.onLease_onLease (s : State) (p : Port) (f g : LeaseSlot → LeaseSlot) :
    (s.onLease p f).onLease p g = s.onLease p fun l => g (f l) := by simp [State.onLease]

/-- Parking fills the lease slot whole, and moves the wait list and the count of parkings (R38, R53). -/
theorem park_eq (s : State) (p : Port) (r : LeaseRequest) : s.park p r =
    State.onLease { s with waitList := joinWaitList s.precedence p s.waitList, parkings := s.parkings + 1 } p fun _ =>
      ⟨some ⟨r, if r.timeout = 0 then none else some (1000 * r.timeout.toNat), s.parkings⟩,
        ⟨.request, .waiting, none⟩⟩ := by
  rw [State.park, State.record, State.onLease_onLease]
  simp only [Nat.mul_comm]

theorem parkedRequest : Claims.ParkedRequest := by
  intro p r s taken run idle staged room wait blocked
  refine ⟨s.park p r, ?_, ?_, fun q other => ?_, ?_, rfl, rfl⟩
  · rw [exec_request taken, request_of_blocked run idle staged room wait blocked]
  · rw [park_eq, State.onLease_get_self]
  · rw [park_eq, State.onLease_get_of_ne _ _ other]
  · exact joinWaitList_eq s.precedence p s.waitList

/-! ### CANCEL and the timeout of a waiting request (R52, R57) -/

/-- A request that leaves the wait list with a last result: its lease slot is IDLE with that record (R52, R55, R57). -/
theorem unwait_record (s : State) (p : Port) (op : LeaseOperation) (result : LeaseResult) (h : Option Handle) :
    (s.unwait p).record p op result h =
      State.onLease { s with waitList := s.waitList.erase p } p fun _ => ⟨none, ⟨op, result, h⟩⟩ :=
  State.onLease_onLease _ _ _ _

/-- Settles O20: outside RUN, WAITING and IDLE are the three ways through CANCEL. -/
theorem cancelOutcome : Obligations.CancelOutcome := by
  intro p s taken
  have event : exec (.cancel p) s = .next (s.cancel p) := congrArg Host.Outcome.next (writeAccess_of_takes taken _)
  rw [event]
  refine ⟨fun run waits => ?_, fun run idle => ?_, fun idles => ?_⟩
  · rw [← unwait_record]; simp [State.cancel, run, waits]
  · simp [State.cancel, State.record, run, idle]
  · simp [State.cancel, State.record, idles]

/-- Settles O21: at remaining time 0 the request leaves as one that is cancelled does, and its port is told. -/
theorem leaseTimeoutOutcome : Obligations.LeaseTimeoutOutcome := by
  intro p s running
  have event : exec (.leaseTimeout p) s = .next (s.timeoutLease p) :=
    congrArg Host.Outcome.next (ownEvent_of_running running _)
  rw [event]
  refine ⟨fun due => ?_, fun early => ?_⟩
  · rw [State.timeoutLease, if_pos due, unwait_record]; rfl
  · rw [State.timeoutLease, if_neg early]

/-! ### One tick of the timebase (R57, R103) -/

theorem tick_leaseSlot (s : State) (p : Port) : s.tick.leaseSlots.get p = (s.leaseSlots.get p).tick := by cases p <;> rfl

theorem tick_remainingTime (s : State) (p : Port) : s.tick.remainingTime p = (s.remainingTime p).map (· - 1) := by
  rw [State.remainingTime, State.remainingTime, tick_leaseSlot, LeaseSlot.tick]
  cases (s.leaseSlots.get p).waiting <;> rfl

theorem tick_dataTimer (s : State) : s.tick.dataTimer = s.dataTimer.map (· - 1) := by
  have current : s.tick.engine.current =
    s.engine.current.map fun a => { a with dataTimer := tickTimer a.dataTimer } := rfl
  rw [State.dataTimer, State.dataTimer, current]
  cases s.engine.current <;> rfl

/-- The timeouts queued: the data timeout where its timer is at 0, and every lease timeout that is due (R57, R103). -/
theorem mem_dueTimeouts (s : State) (c : Instr) : c ∈ s.dueTimeouts ↔
    (c = .dataTimeout ∧ s.dataTimer = some 0) ∨ ∃ p, s.remainingTime p = some 0 ∧ .leaseTimeout p = c := by
  have leases : c ∈ s.dueLeases ↔ ∃ p, s.remainingTime p = some 0 ∧ .leaseTimeout p = c := by
    simp [State.dueLeases, Port.mem_all]
  rw [← leases, State.dueTimeouts]
  by_cases due : s.dataTimer = some 0
  · rw [if_pos (by simpa using due)]
    split
    · next none => simp [none, due]
    · split
      · simp [due]
      · simp [due, or_comm]
  · rw [if_neg (by simpa using due)]
    simp [due]

/-- Settles O2: the tick, each time and each queued timeout by its own lemma. -/
theorem emptyQueueTicks : Obligations.EmptyQueueTicks := by
  intro s empty
  have queued (c : Instr) : c ∈ s.tick.pending ↔ (c = .dataTimeout ∧ s.tick.dataTimer = some 0) ∨
      ∃ p, s.tick.remainingTime p = some 0 ∧ .leaseTimeout p = c := mem_dueTimeouts s.tickTimers c
  refine ⟨s.tick, ?_, tick_remainingTime s, tick_dataTimer s, fun p => ?_, ?_, fun p => ?_, fun p => ?_, ?_, ?_⟩
  · rw [step, empty]
  · rw [queued]; simp
  · rw [queued]; simp
  · rw [tick_leaseSlot]; rfl
  · rw [tick_leaseSlot, LeaseSlot.tick, Option.map_map]; rfl
  · exact Option.map_map _ _ _
  · rw [← empty]; rfl

end Sys2Proof.Machine
end

section
/-! SUPPORT. The evaluation of the wait list: what one request's evaluation does, what a pass does request by request, and
that the passes end by themselves, since a pass that revokes leaves fewer requests waiting (R54 to R56). -/

namespace Sys2Proof.Machine

open Sys2Proof.Claims

/-! ### The evaluation of one request (R55, R56) -/

section One

variable {s : State} {p : Port}

theorem evaluateOne_of_idle (idle : (s.leaseSlots.get p).waiting = none) : s.evaluateOne p = (s, false) := by
  simp [State.evaluateOne, idle]

variable {w : WaitingRequest} (waiting : (s.leaseSlots.get p).waiting = some w)
include waiting

theorem evaluateOne_of_blocked (blocked : Blocked s p w.request) : s.evaluateOne p = (s, false) := by
  rcases decideGrant_of_blocked blocked with decided | decided <;> simp [State.evaluateOne, waiting, decided]

theorem evaluateOne_of_not_blocked (unblocked : ¬ Blocked s p w.request) :
    ∃ i, ((s.preempted p w.request).slot i).state = .free ∧
      (∀ j, j < i → ((s.preempted p w.request).slot j).state ≠ .free) ∧
      s.evaluateOne p =
        ((s.preempted p w.request).grantWaiting p w.request i, !(s.conflictSet p w.request).isEmpty) := by
  have decided := decideGrant_of_not_blocked unblocked
  obtain ⟨i, free, least, granted⟩ := performGrant_eq p w.request (decideGrant_granted decided).2
  refine ⟨i, free, least, ?_⟩
  simp only [State.evaluateOne, waiting, decided, granted]
  rfl

end One

/-- A granted waiting request: the slot is HELD, and the lease slot is IDLE with REQUEST, GRANTED (R22, R55). -/
theorem grantWaiting_eq (u : State) (p : Port) (r : LeaseRequest) (i : SlotNo) : u.grantWaiting p r i =
    ((State.onSlot { u with waitList := u.waitList.erase p } i (Slot.grant p r)).onLease p fun _ =>
      ⟨none, ⟨.request, .granted, some ⟨i, (u.slot i).generation + 1⟩⟩⟩).onPort p fun hp =>
        hp.offer (.leaseGranted ⟨i, (u.slot i).generation + 1⟩) := by
  rw [State.grantWaiting, unwait_record]
  rfl

/-- The model's evaluation of one request is the statement's (R55, R56). -/
theorem evaluateOne_evaluated (s : State) (p : Port) : Evaluated s (s.evaluateOne p).1 p (s.evaluateOne p).2 := by
  unfold Evaluated
  split
  · next idle => rw [evaluateOne_of_idle idle]; exact ⟨rfl, rfl⟩
  · next w waiting =>
    refine ⟨fun blocked => ?_, fun unblocked => ?_⟩
    · rw [evaluateOne_of_blocked waiting blocked]; exact ⟨rfl, rfl⟩
    · obtain ⟨i, free, least, granted⟩ := evaluateOne_of_not_blocked waiting unblocked
      rw [granted]
      exact ⟨by simp, i, free, least, grantWaiting_eq _ p w.request i⟩

/-! ### One pass (R54) -/

/-- The requests of the ports listed evaluated in turn, and whether one of them revoked a window. -/
def State.evaluateEach : List Port → State → State × Bool
  | [], s => (s, false)
  | p :: rest, s =>
    ((State.evaluateEach rest (s.evaluateOne p).1).1, (s.evaluateOne p).2 || (State.evaluateEach rest (s.evaluateOne p).1).2)

/-- The model's pass is that evaluation over the wait list. -/
theorem evaluationPass_eq (s : State) : s.evaluationPass = State.evaluateEach s.waitList s := by
  suffices folded : ∀ (l : List Port) (t : State) (b : Bool),
      l.foldl (fun acc p => ((acc.1.evaluateOne p).1, acc.2 || (acc.1.evaluateOne p).2)) (t, b) =
        ((State.evaluateEach l t).1, b || (State.evaluateEach l t).2) by
    rw [State.evaluationPass, folded, Bool.false_or]
  intro l
  induction l with
  | nil => intro t b; simp [State.evaluateEach]
  | cons p rest ih => intro t b; rw [List.foldl_cons, ih, Bool.or_assoc]; rfl

theorem evaluateEach_passed (l : List Port) (s : State) :
    Passed l s (State.evaluateEach l s).1 (State.evaluateEach l s).2 := by
  induction l generalizing s with
  | nil => exact ⟨rfl, rfl⟩
  | cons p rest ih => exact ⟨_, _, _, evaluateOne_evaluated s p, ih _, rfl⟩

/-! ### A pass that revokes leaves fewer requests waiting (R54) -/

/-- Each of the ports listed whose request waits is on the wait list. -/
def State.Listed (l : List Port) (s : State) : Prop :=
  ∀ q ∈ l, (s.leaseSlots.get q).waiting.isSome = true → q ∈ s.waitList

/-- The evaluation of a request changes nothing, or takes that request alone off the wait list (R55). -/
theorem evaluateOne_waitList (s : State) (p : Port) : s.evaluateOne p = (s, false) ∨
    (s.leaseSlots.get p).waiting.isSome = true ∧ (s.evaluateOne p).1.waitList = s.waitList.erase p ∧
      ((s.evaluateOne p).1.leaseSlots.get p).waiting = none ∧
      ∀ q, q ≠ p → (s.evaluateOne p).1.leaseSlots.get q = s.leaseSlots.get q := by
  cases waiting : (s.leaseSlots.get p).waiting with
  | none => exact .inl (evaluateOne_of_idle waiting)
  | some w =>
    by_cases blocked : Blocked s p w.request
    · exact .inl (evaluateOne_of_blocked waiting blocked)
    obtain ⟨i, -, -, granted⟩ := evaluateOne_of_not_blocked waiting blocked
    have rest := (preempted_spec s p w.request).rest
    have list : (s.preempted p w.request).waitList = s.waitList := (congrArg State.waitList rest :)
    have slots : (s.preempted p w.request).leaseSlots = s.leaseSlots := (congrArg State.leaseSlots rest :)
    rw [granted]
    refine .inr ⟨rfl, ?_, ?_, fun q other => ?_⟩
    · rw [grantWaiting_waitList, list]
    · rw [grantWaiting_eq, State.onPort_leaseSlots, State.onLease_get_self]
    · rw [grantWaiting_leaseSlot _ _ _ _ other, slots]

theorem State.Listed.evaluateOne {l : List Port} {s : State} (h : s.Listed l) (p : Port) : (s.evaluateOne p).1.Listed l := by
  rcases evaluateOne_waitList s p with same | ⟨-, list, own, others⟩
  · rw [same]; exact h
  · intro q m waits
    have other : q ≠ p := fun e => by rw [e, own] at waits; cases waits
    rw [others q other] at waits
    rw [list, List.mem_erase_of_ne other]
    exact h q m waits

/-- An evaluation that revokes a window takes its request off the wait list (R55). -/
theorem evaluateOne_length {s : State} {p : Port} (listed : (s.leaseSlots.get p).waiting.isSome = true → p ∈ s.waitList) :
    (s.evaluateOne p).1.waitList.length + (s.evaluateOne p).2.toNat ≤ s.waitList.length := by
  rcases evaluateOne_waitList s p with same | ⟨waits, list, -⟩
  · rw [same]; exact le_refl _
  · have m := listed waits
    have shorter := List.length_erase_of_mem m
    have some := List.length_pos_of_mem m
    have bit := (s.evaluateOne p).2.toNat_le
    rw [list]
    omega

theorem evaluateEach_length {l : List Port} {s : State} (listed : s.Listed l) :
    (State.evaluateEach l s).1.waitList.length + (State.evaluateEach l s).2.toNat ≤ s.waitList.length := by
  induction l generalizing s with
  | nil => exact le_refl _
  | cons p rest ih =>
    have here := evaluateOne_length (listed p List.mem_cons_self)
    have later := ih fun q m => (listed.evaluateOne p) q (List.mem_cons_of_mem _ m)
    simp only [State.evaluateEach]
    cases revokes : (s.evaluateOne p).2 with
    | false => rw [Bool.false_or]; omega
    | true => rw [Bool.true_or, Bool.toNat_true]; rw [revokes, Bool.toNat_true] at here; omega

theorem evaluationPass_length {s : State} (revokes : s.evaluationPass.2 = true) :
    s.evaluationPass.1.waitList.length < s.waitList.length := by
  have shorter := evaluateEach_length (s := s) fun q m _ => m
  rw [← evaluationPass_eq, revokes] at shorter
  exact shorter

/-! ### The passes (R54) -/

/-- With more passes allowed than requests wait, how many are allowed does not matter (R54, log entry 24). -/
theorem evaluationPasses_eq {n m : Nat} {s : State} (hn : s.waitList.length < n) (hm : s.waitList.length < m) :
    State.evaluationPasses n s = State.evaluationPasses m s := by
  induction n generalizing m s with
  | zero => omega
  | succ n ih =>
    obtain _ | m := m
    · omega
    rw [State.evaluationPasses, State.evaluationPasses]
    split
    · next revokes =>
      have shorter := evaluationPass_length revokes
      exact ih (by omega) (by omega)
    · rfl

/-- One pass, and after it the evaluation of the list that is then left where the pass revoked a window (R54). -/
theorem evaluateWaitList_eq (s : State) : s.evaluateWaitList =
    if s.evaluationPass.2 then s.evaluationPass.1.evaluateWaitList else s.evaluationPass.1 := by
  rw [State.evaluateWaitList, State.evaluationPasses]
  split
  · next revokes => exact evaluationPasses_eq (evaluationPass_length revokes) (Nat.lt_succ_self _)
  · rfl

theorem waitListEvaluation : Claims.WaitListEvaluation := fun s =>
  ⟨s.evaluationPass.1, s.evaluationPass.2, evaluationPass_eq s ▸ evaluateEach_passed s.waitList s, evaluateWaitList_eq s⟩

/-- Settles O15: a blocked request with WAIT parks, and the evaluation goes by passes over the requests that wait. -/
theorem requestParks : Obligations.RequestParks := ⟨parkedRequest, waitListEvaluation⟩

end Sys2Proof.Machine
end

section
/-! SUPPORT. The capacities of the part's queues, FIFOs, counts and buffers, surface memory's form and the frame number, as one
relation between a state and the next that composes across an event, and that every command but a choice event, a detach and a
device reset keeps, with the arbiter's skip counts and pointer (R70, R72, R82, R112, R129, R158, R168, R169, R177, R178). -/

namespace Sys2Proof.Machine

/-! ### The bounds of each block -/

/-- The queues, FIFOs and loss count of a Host Port Unit within their capacities (R70, R168, R169, R177, R178). -/
structure HostPort.Bounded (hp : HostPort) : Prop where
  queue : hp.queue.length ≤ queueCapacity
  upload : hp.upload.length ≤ fifoCapacity
  readback : hp.readback.length ≤ fifoCapacity
  notices : hp.noticesBounded

/-- The entries and each port's markers within their capacities (R112, R129). -/
structure Buffer.Bounded (b : Buffer) : Prop where
  occupancy : b.occupancy ≤ bufferCapacity
  markers : ∀ p, (b.markersOf p).length ≤ markerCapacity

/-- The spans that a command has completed within their bound (R82). -/
def ActiveCommand.Bounded (a : ActiveCommand) : Prop := a.spansCompleted ≤ 65535

def Engine.Bounded (e : Engine) : Prop := ∀ a, e.current = some a → a.Bounded

/-- The frame number is FRAMES modulo 65536 (R158). -/
def Composer.Numbered (c : Composer) : Prop := c.frameNumber = c.frames.setWidth 16

/-- `t` keeps every bound that `s` meets, and the arbiter's skip counts and pointer. -/
structure BoundsFrame (s t : State) : Prop where
  skips : t.skips = s.skips
  pointer : t.pointer = s.pointer
  ports : ∀ p, (s.ports.get p).Bounded → (t.ports.get p).Bounded
  buffer : s.buffer.Bounded → t.buffer.Bounded
  engine : s.engine.Bounded → t.engine.Bounded
  memory : s.memory.wf = true → t.memory.wf = true
  composer : s.composer.Numbered → t.composer.Numbered

/-- A state within every capacity, with the laws of memory and of the frame number. -/
structure State.Bounded (s : State) : Prop where
  skips : ∀ p, s.skips.get p ≤ 15
  ports : ∀ p, (s.ports.get p).Bounded
  buffer : s.buffer.Bounded
  engine : s.engine.Bounded
  memory : s.memory.wf = true
  composer : s.composer.Numbered

theorem bounded_iff (s : State) : s.Bounded ↔ Capacities s ∧ RecordLaws s where
  mp h :=
    ⟨{ queue := fun p => (h.ports p).queue
       upload := fun p => (h.ports p).upload
       readback := fun p => (h.ports p).readback
       notices := fun p => (h.ports p).notices.1
       lossCount := fun p => (h.ports p).notices.2
       skips := h.skips
       occupancy := h.buffer.occupancy
       markers := h.buffer.markers
       spans := h.engine }, h.memory, h.composer⟩
  mpr := fun ⟨capacities, records⟩ =>
    { skips := capacities.skips
      ports := fun p => ⟨capacities.queue p, capacities.upload p, capacities.readback p, capacities.notices p,
        capacities.lossCount p⟩
      buffer := ⟨capacities.occupancy, capacities.markers⟩
      engine := capacities.spans
      memory := records.memory
      composer := records.frames }

theorem BoundsFrame.refl (s : State) : BoundsFrame s s := ⟨rfl, rfl, fun _ => id, id, id, id, id⟩

theorem BoundsFrame.trans {s t u : State} (a : BoundsFrame s t) (b : BoundsFrame t u) : BoundsFrame s u where
  skips := b.skips.trans a.skips
  pointer := b.pointer.trans a.pointer
  ports p h := b.ports p (a.ports p h)
  buffer h := b.buffer (a.buffer h)
  engine h := b.engine (a.engine h)
  memory h := b.memory (a.memory h)
  composer h := b.composer (a.composer h)

theorem State.Bounded.of_frame {s t : State} (h : s.Bounded) (f : BoundsFrame s t) : t.Bounded where
  skips := f.skips ▸ h.skips
  ports p := f.ports p (h.ports p)
  buffer := f.buffer h.buffer
  engine := f.engine h.engine
  memory := f.memory h.memory
  composer := f.composer h.composer

/-- The bounds that postings do not reach are those of the rest of the unit. -/
theorem HostPort.Bounded.of_quiet {a b : HostPort} (h : a.Bounded) (quiet : b.quiet = a.quiet)
    (notices : b.noticesBounded) : b.Bounded where
  queue := (congrArg (·.queue.length) quiet : b.queue.length = a.queue.length) ▸ h.queue
  upload := (congrArg (·.upload.length) quiet : b.upload.length = a.upload.length) ▸ h.upload
  readback := (congrArg (·.readback.length) quiet : b.readback.length = a.readback.length) ▸ h.readback
  notices := notices

theorem HostPort.Bounded.offer {hp : HostPort} (h : hp.Bounded) (n : Notice) : (hp.offer n).Bounded :=
  h.of_quiet (HostPort.offer_quiet n hp) (HostPort.offer_bounded h.notices)

/-- The Lease Manager's work and the departures it causes keep every bound. -/
theorem LeaseFrame.bounds {s t : State} (f : LeaseFrame s t) : BoundsFrame s t where
  skips := f.skips
  pointer := f.pointer
  ports p h := h.of_quiet (f.ports p) (f.notices p h.notices)
  buffer h := ⟨le_trans f.occupancy h.occupancy, fun p => le_trans (f.markers p) (h.markers p)⟩
  engine h a e := h a (f.current ▸ e)
  memory h := by rw [f.memory]; exact h
  composer h := by rw [f.composer]; exact h

/-! ### The named updates -/

theorem onPort_bounds {s : State} {p : Port} {f : HostPort → HostPort}
    (h : (s.ports.get p).Bounded → (f (s.ports.get p)).Bounded) : BoundsFrame s (s.onPort p f) :=
  { BoundsFrame.refl s with
    ports := fun q k => by
      by_cases e : q = p
      · subst e; rw [State.onPort_get_self]; exact h k
      · rw [State.onPort_get_of_ne s f e]; exact k }

/-- An update of a Host Port Unit that leaves its queues, its FIFOs and its loss count. -/
theorem onPort_stored_bounds (s : State) (p : Port) {f : HostPort → HostPort}
    (queue : (f (s.ports.get p)).queue = (s.ports.get p).queue)
    (upload : (f (s.ports.get p)).upload = (s.ports.get p).upload)
    (readback : (f (s.ports.get p)).readback = (s.ports.get p).readback)
    (notices : (f (s.ports.get p)).notices = (s.ports.get p).notices)
    (lossCount : (f (s.ports.get p)).lossCount = (s.ports.get p).lossCount) : BoundsFrame s (s.onPort p f) :=
  onPort_bounds fun h => ⟨queue ▸ h.queue, upload ▸ h.upload, readback ▸ h.readback,
    notices ▸ h.notices.1, lossCount ▸ h.notices.2⟩

theorem onEngine_bounds {s : State} {f : Engine → Engine} (h : s.engine.Bounded → (f s.engine).Bounded) :
    BoundsFrame s (s.onEngine f) := { BoundsFrame.refl s with engine := h }

/-- The engine takes up or goes on with a command whose spans are within their bound. -/
theorem onEngine_current_bounds {s : State} {f : Engine → Engine} {a : ActiveCommand}
    (current : (f s.engine).current = some a) (ha : s.engine.Bounded → a.Bounded) : BoundsFrame s (s.onEngine f) :=
  onEngine_bounds fun h b e => by rw [current] at e; cases e; exact ha h

theorem onCurrent_bounds (s : State) {f : ActiveCommand → ActiveCommand}
    (hf : ∀ a, (f a).spansCompleted = a.spansCompleted) : BoundsFrame s (s.onCurrent f) :=
  onEngine_bounds fun h b e => by
    obtain ⟨a, current, rfl⟩ := Option.map_eq_some_iff.mp e
    unfold ActiveCommand.Bounded
    rw [hf]
    exact h a current

theorem onBuffer_bounds {s : State} {f : Buffer → Buffer} (h : s.buffer.Bounded → (f s.buffer).Bounded) :
    BoundsFrame s (s.onBuffer f) := { BoundsFrame.refl s with buffer := h }

/-- An update of the buffer that adds no entry and no marker. -/
theorem onBuffer_items_bounds {s : State} {f : Buffer → Buffer} (occupancy : (f s.buffer).occupancy ≤ s.buffer.occupancy)
    (markers : ∀ p, ((f s.buffer).markersOf p).length ≤ (s.buffer.markersOf p).length) : BoundsFrame s (s.onBuffer f) :=
  onBuffer_bounds fun h => ⟨le_trans occupancy h.occupancy, fun p => le_trans (markers p) (h.markers p)⟩

/-- An update of the buffer that leaves its age order. -/
theorem onBuffer_same_bounds {s : State} {f : Buffer → Buffer} (items : (f s.buffer).items = s.buffer.items) :
    BoundsFrame s (s.onBuffer f) :=
  onBuffer_items_bounds (by simp [Buffer.occupancy, Buffer.entries, items])
    fun p => by simp [Buffer.markersOf, Buffer.markers, items]

theorem onComposer_bounds {s : State} {f : Composer → Composer} (h : s.composer.Numbered → (f s.composer).Numbered) :
    BoundsFrame s (s.onComposer f) := { BoundsFrame.refl s with composer := h }

theorem onSlot_bounds (s : State) (i : SlotNo) (f : Slot → Slot) : BoundsFrame s (s.onSlot i f) :=
  (onSlot_frame s i f).bounds

theorem post_bounds (s : State) (p : Port) (n : Notice) : BoundsFrame s (s.post p n) := (post_frame s p n).bounds

theorem freeChannel_bounds (s : State) : BoundsFrame s s.freeChannel := { BoundsFrame.refl s with }

theorem writeBlock_bounds (s : State) (b : BlockName) (v : Block) : BoundsFrame s (s.writeBlock b v) :=
  { BoundsFrame.refl s with memory := fun h => Memory.writeBlock_wf h _ _ }

/-! ### The age order -/

theorem changeYoungest_entries (q : Entry → Bool) (f : Entry → Entry) (items : List AgeItem) :
    ((changeYoungest q f items).filterMap AgeItem.entry?).length = (items.filterMap AgeItem.entry?).length := by
  simp [changeYoungest, List.filterMap_reverse, changeOldest_entries]

theorem changeYoungest_markers (q : Entry → Bool) (f : Entry → Entry) (items : List AgeItem) :
    (changeYoungest q f items).filterMap AgeItem.marker? = items.filterMap AgeItem.marker? := by
  simp [changeYoungest, List.filterMap_reverse, changeOldest_markers]

end Sys2Proof.Machine
end

section
/-! SUPPORT. Every event keeps the bounds: the host's accesses, start-up, the drawing events, the Composer's and the
channel's. -/

namespace Sys2Proof.Machine

/-! ### The host's accesses -/

theorem HostPort.Bounded.push {hp : HostPort} (h : hp.Bounded) (room : hp.queue.length < queueCapacity) (c : Command)
    (r : SubmitResult) : ({ hp with submitResult := r, queue := hp.queue ++ [c] } : HostPort).Bounded :=
  { h with queue := by rw [List.length_append]; exact room }

theorem submit_bounds (s : State) (p : Port) (u : Submission) : BoundsFrame s (s.submit p u) := by
  unfold State.submit
  split
  · exact onPort_stored_bounds s p rfl rfl rfl rfl rfl
  split
  · exact onPort_stored_bounds s p rfl rfl rfl rfl rfl
  next room =>
  split
  · exact onPort_stored_bounds s p rfl rfl rfl rfl rfl
  · exact onPort_bounds fun h => h.push (Nat.lt_of_not_le room) _ _

theorem mark_spansCompleted (a : ActiveCommand) : a.mark.spansCompleted = a.spansCompleted := by
  unfold ActiveCommand.mark
  split <;> rfl

theorem abort_bounds (s : State) (p : Port) : BoundsFrame s (s.abort p) := by
  have emptied : BoundsFrame s (s.onPort p fun hp => { hp with queue := [], upload := [] }) :=
    onPort_bounds fun h => { h with queue := Nat.zero_le _, upload := Nat.zero_le _ }
  refine (emptied.trans (onCurrent_bounds _ fun a => ?_)).trans (post_bounds _ _ _)
  split
  · exact mark_spansCompleted a
  · rfl

theorem restartDataTimer_bounds (s : State) (p : Port) (e : EngineState) : BoundsFrame s (s.restartDataTimer p e) := by
  unfold State.restartDataTimer
  split
  · exact onCurrent_bounds s fun a => by split <;> rfl
  · exact .refl s

theorem setAccessError_bounds (s : State) (p : Port) (e : AccessError) : BoundsFrame s (s.setAccessError p e) :=
  onPort_stored_bounds s p rfl rfl rfl rfl rfl

theorem pushUpload_bounds (s : State) (p : Port) (w : Word) : BoundsFrame s (s.pushUpload p w) := by
  unfold State.pushUpload
  split
  · next room =>
    refine BoundsFrame.trans (onPort_bounds fun h => { h with upload := ?_ }) (restartDataTimer_bounds _ _ _)
    rw [List.length_append]; exact room
  · exact setAccessError_bounds s p _

theorem popReadback_bounds (s : State) (p : Port) : BoundsFrame s (s.popReadback p) := by
  unfold State.popReadback
  split
  · exact setAccessError_bounds s p _
  · next w rest words =>
    have popped : BoundsFrame s (s.onPort p fun hp => { hp with readback := rest }) :=
      onPort_bounds fun h => { h with readback := le_trans (by simp [words]) h.readback }
    exact popped.trans (restartDataTimer_bounds _ _ _)

theorem popNotice_bounds (s : State) (p : Port) : BoundsFrame s (s.popNotice p) :=
  onPort_bounds fun h => { h with notices := ⟨le_trans (by simp) h.notices.1, h.notices.2⟩ }

theorem clearLoss_bounds (s : State) (p : Port) : BoundsFrame s (s.onPort p fun hp => { hp with lossCount := 0 }) :=
  onPort_bounds fun h => { h with notices := ⟨h.notices.1, Nat.zero_le _⟩ }

theorem writeIntEnable_bounds (s : State) (p : Port) (w : Word) : BoundsFrame s (s.writeIntEnable p w) :=
  onPort_stored_bounds s p rfl rfl rfl rfl rfl

theorem writeNoticeEnable_bounds (s : State) (p : Port) (w : Word) : BoundsFrame s (s.writeNoticeEnable p w) :=
  onPort_stored_bounds s p rfl rfl rfl rfl rfl

theorem stageCommand_bounds (s : State) (p : Port) (r : Register) (w : Word) : BoundsFrame s (s.stageCommand p r w) :=
  onPort_stored_bounds s p rfl rfl rfl rfl rfl

theorem stageLease_bounds (s : State) (p : Port) (r : Register) (w : Word) : BoundsFrame s (s.stageLease p r w) :=
  onPort_stored_bounds s p rfl rfl rfl rfl rfl

/-! ### Start-up -/

theorem writeConfig_bounds (s : State) (p : Port) (f : ConfigField) (w : Word) : BoundsFrame s (s.writeConfig p f w) := by
  unfold State.writeConfig
  split
  · exact { BoundsFrame.refl s with }
  · exact setAccessError_bounds s p _

theorem enterRun_bounds (s : State) : BoundsFrame s s.enterRun := by
  have entered : BoundsFrame s { s with globalState := .run, clearPosition := none } := { BoundsFrame.refl s with }
  exact (entered.trans (onComposer_bounds id)).trans (postAll_frame _ _).bounds

theorem takeCommit_bounds (s : State) (p : Port) : BoundsFrame s (s.takeCommit p) := by
  have answered (r : CommitResult) : BoundsFrame s { s with commitResult := r } := { BoundsFrame.refl s with }
  unfold State.takeCommit
  split
  · split
    · simp only []
      split
      · exact { BoundsFrame.refl s with }
      · exact (answered .ok).trans (enterRun_bounds _)
    · exact (answered _).trans (post_bounds _ _ _)
  · exact setAccessError_bounds s p _

theorem clearWriteCompletion_bounds (s : State) : BoundsFrame s s.clearWriteCompletion := by
  unfold State.clearWriteCompletion
  split
  · next v b _ =>
    refine ((freeChannel_bounds s).trans (writeBlock_bounds _ b v)).trans ?_
    unfold State.advanceClear
    split
    · exact { BoundsFrame.refl _ with }
    · exact enterRun_bounds _
  · exact .refl s

/-! ### The spans of a command (R82) -/

section Commands

variable {a : ActiveCommand}

theorem beginSpan_spansCompleted (a : ActiveCommand) : a.beginSpan.spansCompleted = a.spansCompleted := by
  unfold ActiveCommand.beginSpan
  split <;> rfl

/-- The count of spans stays at 65535 (R82). -/
theorem ActiveCommand.finishSpan_bounded (a : ActiveCommand) (q : SpanPosition) : (a.finishSpan q).Bounded := by
  unfold ActiveCommand.Bounded ActiveCommand.finishSpan
  rw [beginSpan_spansCompleted]
  exact Nat.min_le_left _ _

theorem ActiveCommand.Bounded.settle (h : a.Bounded) (q : SpanPosition) : (a.settle q).Bounded := by
  unfold ActiveCommand.settle
  split
  · exact finishSpan_bounded _ q
  · exact finishSpan_bounded _ q
  · exact h

theorem ActiveCommand.Bounded.takeBlock (h : a.Bounded) (q : SpanPosition) (b : Block) : (a.takeBlock q b).Bounded := by
  unfold ActiveCommand.takeBlock
  split
  · exact ActiveCommand.Bounded.settle (by exact h) q
  · split <;> exact h
  · exact h

theorem ActiveCommand.Bounded.takeWord (h : a.Bounded) (q : SpanPosition) (w : Word) : (a.takeWord q w).Bounded := by
  unfold ActiveCommand.takeWord
  split <;> exact h

theorem ActiveCommand.Bounded.nextWord (h : a.Bounded) {w : Word} {b : ActiveCommand} (e : a.nextWord = some (w, b)) :
    b.Bounded := by
  unfold ActiveCommand.nextWord at e
  split at e <;> cases e
  · exact h
  · exact ActiveCommand.Bounded.settle (by exact h) _
  · exact ActiveCommand.Bounded.settle (by exact h) _

theorem activate_bounded (p : Port) (c : DrawCommand) (layer sourceLayer : Layer) (clip : Clip)
    (order : RowOrder × BlockOrder) : (activate p c layer sourceLayer clip order).Bounded := by
  unfold activate
  split <;> exact Nat.zero_le _

/-- A command that starts has completed no span (R84). -/
theorem startChecks_bounded {s : State} {p : Port} {c : DrawCommand} (e : s.startChecks p c = .ok a) : a.Bounded := by
  unfold State.startChecks at e
  split at e
  · cases e
  split at e
  · cases e; exact activate_bounded ..
  · cases e; exact activate_bounded ..
  · split at e <;> cases e
    exact activate_bounded ..
  · split at e <;> cases e
    exact activate_bounded ..
  · split at e <;> cases e
    exact activate_bounded ..

theorem Engine.Bounded.deliver {e : Engine} (h : e.Bounded) (b : Block) : (e.deliver b).Bounded := by
  intro c current
  unfold Engine.deliver at current
  split at current
  · next idle => rw [show e.current = some c from current] at idle; cases idle
  · next a held =>
    cases current
    split
    · exact (h a held).takeBlock _ b
    · exact h a held

end Commands

/-! ### The drawing events -/

/-- The engine lets its command go (R83). -/
theorem onEngine_ended_bounds (s : State) : BoundsFrame s (s.onEngine Engine.ended) :=
  onEngine_bounds fun _ a e => by cases e

theorem endDone_bounds (s : State) (p : Port) (c : DrawCommand) : BoundsFrame s (s.endDone p c) := by
  have counted (t : State) : BoundsFrame t
      ((t.onPort p fun hp => { hp with commandsDone := hp.commandsDone + 1 }).onEngine Engine.ended) :=
    (onPort_stored_bounds t p rfl rfl rfl rfl rfl).trans (onEngine_ended_bounds _)
  unfold State.endDone
  split
  · exact (post_bounds s p _).trans (counted _)
  · exact counted s

theorem endFault_bounds (s : State) (p : Port) (c : DrawCommand) (code : FaultCode) (n : Nat) :
    BoundsFrame s (s.endFault p c code n) :=
  ((post_bounds s p _).trans (onPort_stored_bounds _ p rfl rfl rfl rfl rfl)).trans (onEngine_ended_bounds _)

theorem startCommand_bounds (s : State) (p : Port) (c : DrawCommand) : BoundsFrame s (s.startCommand p c) := by
  unfold State.startCommand
  split
  · exact endFault_bounds s p c _ _
  · next a started =>
    split
    · exact endDone_bounds s p c
    · refine onEngine_current_bounds rfl fun _ => ?_
      unfold ActiveCommand.Bounded
      rw [beginSpan_spansCompleted]
      exact startChecks_bounded started

/-- A FENCE leaves the queue for a marker where the port has fewer than four (R76, R129). -/
theorem fenceTake_bounds (s : State) (p : Port) : BoundsFrame s (s.fenceTake p) := by
  unfold State.fenceTake
  split
  · next ready =>
    obtain ⟨-, room⟩ := Bool.and_eq_true_iff.mp ready
    split
    · next token _ =>
      have left : BoundsFrame s (s.onPort p fun hp => { hp with queue := hp.queue.tail }) :=
        onPort_bounds fun h => { h with queue := le_trans (by simp) h.queue }
      refine (left.trans (onBuffer_bounds fun h => ⟨?_, fun q => ?_⟩)).trans (completeMarkers_frame _ p).bounds
      · simpa [Buffer.occupancy, Buffer.entries, AgeItem.entry?] using h.occupancy
      · have old := h.markers q
        by_cases e : p = q
        · subst e
          simpa [Buffer.markersOf, Buffer.markers, AgeItem.marker?] using of_decide_eq_true room
        · simpa [Buffer.markersOf, Buffer.markers, AgeItem.marker?, e] using old
    · exact .refl s
  · exact .refl s

theorem finishWriting_bounds (s : State) (a : ActiveCommand) (q : SpanPosition) (n : Nat) :
    BoundsFrame s (s.finishWriting a q n) :=
  (onPort_stored_bounds s a.port rfl rfl rfl rfl rfl).trans
    (onEngine_current_bounds rfl fun _ => a.finishSpan_bounded q)

theorem mergePost_bounds (s : State) (o : SpanPost) : BoundsFrame s (s.mergePost o) :=
  onBuffer_items_bounds (changeYoungest_entries _ _ _).le fun p => by
    simp [Buffer.markersOf, Buffer.markers, changeYoungest_markers]

theorem postOutcome_allocated {s : State} {o : SpanPost} (e : s.postOutcome o = .allocated) :
    s.buffer.occupancy < bufferCapacity := by
  unfold State.postOutcome at e
  split at e
  · split at e
    · cases e
    · split at e
      · cases e
      · next room => exact Nat.lt_of_not_le room
  · cases e

/-- An allocation finds room for its entry (R113, R115). -/
theorem allocatePost_bounds {s : State} {o : SpanPost} (room : s.buffer.occupancy < bufferCapacity) (owner : Port) :
    BoundsFrame s (s.allocatePost o owner) := by
  refine (onBuffer_bounds fun h => ⟨?_, fun p => ?_⟩).trans (onSlot_bounds _ _ _)
  · have closed := changeYoungest_entries (fun e => e.block == o.block) Entry.close s.buffer.items
    have old : (s.buffer.items.filterMap AgeItem.entry?).length < bufferCapacity := room
    simp only [Buffer.occupancy, Buffer.entries, List.filterMap_append, List.length_append, closed]
    exact old
  · have old := h.markers p
    simpa [Buffer.markersOf, Buffer.markers, AgeItem.marker?, changeYoungest_markers] using old

theorem spanPost_bounds (s : State) : BoundsFrame s s.spanPost := by
  unfold State.spanPost
  split
  · split
    · split
      · unfold State.postSpan
        split
        · exact endFault_bounds ..
        · exact onEngine_bounds id
        · exact (mergePost_bounds s _).trans (finishWriting_bounds ..)
        · next allocated =>
          exact (allocatePost_bounds (postOutcome_allocated allocated) _).trans (finishWriting_bounds ..)
      · exact .refl s
    · exact .refl s
  · exact .refl s

theorem raiseRead_bounds (s : State) (n : BlockName) : BoundsFrame s (s.raiseRead n) := by
  unfold State.raiseRead
  split
  · exact (onBuffer_same_bounds rfl).trans (onEngine_bounds fun h => h.deliver _)
  · exact (onBuffer_same_bounds rfl).trans (onEngine_bounds id)

theorem forwardedRead_bounds (s : State) : BoundsFrame s s.forwardedRead := by
  unfold State.forwardedRead
  split
  · split
    · split
      · split
        · unfold State.readSpan
          split
          · split
            · exact raiseRead_bounds s _
            · exact endFault_bounds ..
          · exact raiseRead_bounds s _
        · exact .refl s
      · exact .refl s
    · exact .refl s
  · exact .refl s

theorem uploadPop_bounds (s : State) : BoundsFrame s s.uploadPop := by
  unfold State.uploadPop
  split
  · next a current =>
    split
    · next q _ =>
      split
      · unfold State.popUpload
        split
        · split
          · exact onEngine_current_bounds rfl fun h => h a current
          · exact .refl s
        · next w rest words =>
          have popped : BoundsFrame s (s.onPort a.port fun hp => { hp with upload := rest }) :=
            onPort_bounds fun h => { h with upload := le_trans (by simp [words]) h.upload }
          refine popped.trans (onEngine_bounds fun h b e => ?_)
          have taken := (h a current).takeWord q w
          split at e <;> cases e
          · exact taken
          · exact taken
      · exact .refl s
    · exact .refl s
  · exact .refl s

theorem readbackPush_bounds (s : State) : BoundsFrame s s.readbackPush := by
  unfold State.readbackPush
  split
  · next a current =>
    split
    · next w b word =>
      split
      · unfold State.pushReadback
        split
        · next room =>
          have pushed : BoundsFrame s (s.onPort a.port fun hp => { hp with readback := hp.readback ++ [w] }) :=
            onPort_bounds fun h => { h with readback := by rw [List.length_append]; exact room }
          refine pushed.trans (onEngine_bounds fun h c e => ?_)
          have next := (h a current).nextWord word
          split at e <;> cases e
          · exact next
          · exact next
        · split
          · exact onEngine_current_bounds rfl fun h => h a current
          · exact .refl s
      · exact .refl s
    · exact .refl s
  · exact .refl s

theorem spanSkip_bounds (s : State) : BoundsFrame s s.spanSkip := by
  unfold State.spanSkip
  split
  · split
    · split
      · exact finishWriting_bounds ..
      · exact .refl s
    · exact .refl s
  · exact .refl s

theorem markEvent_bounds (s : State) : BoundsFrame s s.markEvent := by
  unfold State.markEvent
  split
  · split
    · exact endFault_bounds ..
    · exact .refl s
  · exact .refl s

theorem commandEnd_bounds (s : State) : BoundsFrame s s.commandEnd := by
  unfold State.commandEnd
  split
  · split
    · exact endDone_bounds ..
    · exact .refl s
  · exact .refl s

theorem timeoutData_bounds (s : State) : BoundsFrame s s.timeoutData := by
  unfold State.timeoutData
  split
  · split
    · exact endFault_bounds ..
    · exact .refl s
  · exact .refl s

/-! ### The Composer (R148, R152, R158) -/

theorem setBuffer_numbered {c : Composer} (h : c.Numbered) (y : Nat) (b : LineBuffer) : (c.setBuffer y b).Numbered := by
  unfold Composer.setBuffer
  split <;> exact h

theorem beginFetch_numbered {c : Composer} (h : c.Numbered) (w y : Nat) : (c.beginFetch w y).Numbered :=
  setBuffer_numbered (c := { c with fetchLine := some y, fetchList := fetchListOf c.displayList w y }) h y _

/-- The frame number and FRAMES count each frame start (R148, R158). -/
theorem startFrame_numbered {c : Composer} (h : c.Numbered) (w y : Nat) (list : List DisplayItem) :
    (c.startFrame w y list).Numbered := by
  refine beginFetch_numbered ?_ w 0
  show c.frameNumber + 1 = (c.frames + 1).setWidth 16
  rw [show c.frameNumber = c.frames.setWidth 16 from h, BitVec.setWidth_add _ _ (by omega)]
  rfl

theorem sendLine_numbered {c : Composer} (h : c.Numbered) (w height y : Nat) (pixels : List Pixel) :
    (c.sendLine w height y pixels).Numbered := by
  have released : (if y = 0 then { c with position := .visible y, sentLine := pixels }
      else Composer.releaseLine { c with position := .visible y, sentLine := pixels } (y - 1)).Numbered := by
    split <;> exact h
  unfold Composer.sendLine
  simp only []
  split
  · exact beginFetch_numbered released w _
  · exact released

theorem completeFetch_numbered {c : Composer} (h : c.Numbered) (b : Block) : (c.completeFetch b).Numbered := by
  unfold Composer.completeFetch
  split
  · simp only []
    split
    · exact h
    · exact setBuffer_numbered (c := { c with inFlight := none }) h _ _
  · exact h

theorem takeGrant_numbered {c : Composer} (h : c.Numbered) : c.takeGrant.Numbered := by
  unfold Composer.takeGrant
  split <;> exact h

theorem frameStart_bounds (s : State) : BoundsFrame s s.frameStart := by
  unfold State.frameStart
  split
  · exact ((passFrame_frame s).bounds.trans (onComposer_bounds fun h => startFrame_numbered h _ _ _)).trans
      (postAll_frame _ _).bounds
  · exact .refl s

theorem lineDue_bounds (s : State) : BoundsFrame s s.lineDue := by
  unfold State.lineDue
  split
  · next y _ =>
    have late : BoundsFrame s (s.onComposer fun c =>
        (c.dropLine y).sendLine s.surfaceWidth s.surfaceHeight y (List.replicate s.surfaceWidth s.config.background)) :=
      onComposer_bounds fun h => sendLine_numbered (c := s.composer.dropLine y) h _ _ _ _
    unfold State.lineDueAt
    simp only []
    split
    · exact onComposer_bounds fun h => sendLine_numbered h _ _ _ _
    · split
      · exact late
      · exact late.trans (postAll_frame _ _).bounds
  · exact .refl s

theorem trailingBlankLine_bounds (s : State) : BoundsFrame s s.trailingBlankLine := by
  unfold State.trailingBlankLine
  split
  · exact onComposer_bounds id
  · exact .refl s

/-! ### The channel -/

theorem takeGrant_bounds (s : State) (q : Requester) : BoundsFrame s (s.takeGrant q) := by
  have alternated (v : Alternation) : BoundsFrame s { s with alternation := v } := { BoundsFrame.refl s with }
  unfold State.takeGrant
  split
  · exact onComposer_bounds takeGrant_numbered
  · exact (alternated .engineRead).trans (onBuffer_same_bounds rfl)
  · split
    · exact (alternated .drain).trans (onBuffer_items_bounds (changeOldest_entries _ _ _).le fun p => by
        simp [Buffer.drainBegin, Buffer.markersOf, Buffer.markers, changeOldest_markers])
    · exact .refl s
  · exact .refl s

theorem grantEvent_bounds {s t : State} (e : s.grantEvent = .next t) : BoundsFrame s t := by
  unfold State.grantEvent State.startAccess at e
  split at e
  · split at e
    · split at e
      · cases e
        exact (takeGrant_bounds s _).trans { BoundsFrame.refl _ with }
      · cases e
    · cases e; exact .refl s
  · cases e; exact .refl s

/-- An entry leaves the age order, with its departure (R125). -/
theorem leave_bounds (s : State) (q : Entry → Bool) (v : BitVec 32) (e : Entry) :
    BoundsFrame s ((s.onBuffer fun b => { b with items := removeOldest q b.items, voided := v }).departed e) :=
  BoundsFrame.trans (t := s.onBuffer fun b => { b with items := removeOldest q b.items, voided := v })
    (onBuffer_items_bounds (removeOldest_entries q s.buffer.items).length_le fun p => by
      simp [Buffer.markersOf, Buffer.markers, removeOldest_markers])
    (departed_frame _ e).bounds

theorem underfillCompletion_bounds (s : State) : BoundsFrame s s.underfillCompletion := by
  unfold State.underfillCompletion
  split
  · refine (freeChannel_bounds s).trans ?_
    unfold State.completeUnderfill
    split
    · split
      · exact leave_bounds _ _ _ _
      · exact onBuffer_items_bounds (changeOldest_entries _ _ _).le fun p => by
          simp [Buffer.markersOf, Buffer.markers, changeOldest_markers]
    · exact .refl _
  · exact .refl s

theorem blockWriteCompletion_bounds (s : State) : BoundsFrame s s.blockWriteCompletion := by
  unfold State.blockWriteCompletion
  split
  · next v b _ =>
    refine ((freeChannel_bounds s).trans (writeBlock_bounds _ b v)).trans ?_
    unfold State.completeBlockWrite
    split
    · exact leave_bounds _ _ s.buffer.voided _
    · exact .refl _
  · exact .refl s

theorem engineReadDelivery_bounds (s : State) : BoundsFrame s s.engineReadDelivery := by
  unfold State.engineReadDelivery
  split
  · exact ((freeChannel_bounds s).trans (onBuffer_same_bounds rfl)).trans (onEngine_bounds fun h => h.deliver _)
  · exact .refl s

theorem fetchCompletion_bounds (s : State) : BoundsFrame s s.fetchCompletion := by
  unfold State.fetchCompletion
  split
  · exact (freeChannel_bounds s).trans (onComposer_bounds fun h => completeFetch_numbered h _)
  · exact .refl s

/-- A tick of the timebase moves times alone (R57, R103). -/
theorem tick_bounds (s : State) : BoundsFrame s s.tick :=
  { BoundsFrame.refl s with
    engine := fun h a e => by
      obtain ⟨b, current, rfl⟩ := Option.map_eq_some_iff.mp e
      exact h b current }

end Sys2Proof.Machine
end

section
/-! SUPPORT. Every command keeps the bounds, and every command but a choice event, a detach and a device reset the arbiter's
skip counts and pointer (R74). -/

namespace Sys2Proof.Machine

/-! ### The commands that leave the arbiter alone -/

/-- The commands that can move a skip count or the pointer: the choice event, the detaches, the device reset, and the raw
register write, which can be a detach where it is ill formed. -/
def touchesArbiter : Instr → Bool
  | .deviceReset | .portReset _ _ | .detach _ _ | .registerWrite _ _ _ | .choiceEvent => true
  | _ => false

section Accesses

variable {s t : State} {p : Port} {f : State → State}

theorem writeAccess_bounds (h : Host.Outcome.next (φ := Fault) (ρ := Refusal) (writeAccess s p f) = .next t)
    (hf : BoundsFrame s (f s)) : BoundsFrame s t := by
  cases h
  exact writeAccess_of (P := BoundsFrame s) (.refl s) fun _ => hf

theorem readAccess_bounds {w : Word} (h : Host.Outcome.next (φ := Fault) (ρ := Refusal) (readAccess s p w f) = .next t)
    (hf : BoundsFrame s (f s)) : BoundsFrame s t := by
  cases h
  exact readAccess_of (P := BoundsFrame s) (.refl s) (fun _ => hf) fun _ _ k =>
    k.trans (onPort_stored_bounds _ p rfl rfl rfl rfl rfl)

theorem ownEvent_bounds (h : Host.Outcome.next (φ := Fault) (ρ := Refusal) (ownEvent s f) = .next t)
    (hf : BoundsFrame s (f s)) : BoundsFrame s t := by
  cases h
  exact ownEvent_of (P := BoundsFrame s) (.refl s) fun _ => hf

end Accesses

/-- A property that an access error and a returned word keep holds after an access that is bad, or is none (R162). -/
theorem badOffset_of {P : State → Prop} {s t : State} {p : Port} {access : BadAccess}
    (h : execBadOffset p access s = .next t) (stays : P s) (refused : P (s.setAccessError p .badOffset))
    (word : ∀ (u : State) (v : Word), P u → P (u.onPort p fun hp => { hp with readData := v })) : P t := by
  cases access with
  | narrowRead offset => cases h; exact readAccess_of stays (fun _ => refused) word
  | narrowWrite offset => cases h; exact writeAccess_of stays fun _ => refused
  | unmappedRead offset =>
    simp only [execBadOffset] at h
    split at h <;> cases h
    · exact stays
    · exact readAccess_of stays (fun _ => refused) word
  | unmappedWrite offset =>
    simp only [execBadOffset] at h
    split at h <;> cases h
    · exact stays
    · exact writeAccess_of stays fun _ => refused

theorem badOffset_bounds {s t : State} {p : Port} {access : BadAccess} (h : execBadOffset p access s = .next t) :
    BoundsFrame s t :=
  badOffset_of h (.refl s) (setAccessError_bounds s p _) fun _ _ k =>
    k.trans (onPort_stored_bounds _ p rfl rfl rfl rfl rfl)

theorem deviceResetEnd_bounds {s t : State} {straps : Straps} (h : execDeviceResetEnd straps s = .next t) :
    BoundsFrame s t := by
  unfold execDeviceResetEnd at h
  split at h <;> cases h
  · exact { BoundsFrame.refl s with }
  · exact .refl s

theorem execGrantEvent_bounds {s t : State} (h : execGrantEvent s = .next t) : BoundsFrame s t := by
  unfold execGrantEvent at h
  split at h
  · cases h; exact .refl s
  · exact grantEvent_bounds h

/-- Every other command keeps the bounds, the skip counts and the pointer. -/
theorem exec_bounds {c : Instr} {s t : State} (other : touchesArbiter c = false) (h : exec c s = .next t) :
    BoundsFrame s t := by
  cases c with
  | deviceReset | portReset | detach | registerWrite | choiceEvent => cases other
  | deviceResetEnd straps => exact deviceResetEnd_bounds h
  | configWrite p f w => exact writeAccess_bounds h (writeConfig_bounds s p f w)
  | commit p w => exact writeAccess_bounds h (takeCommit_bounds s p)
  | fill p tag notify => exact writeAccess_bounds h (submit_bounds s p _)
  | pattern p tag notify => exact writeAccess_bounds h (submit_bounds s p _)
  | copy p tag notify => exact writeAccess_bounds h (submit_bounds s p _)
  | upload p tag notify => exact writeAccess_bounds h (submit_bounds s p _)
  | readback p tag notify => exact writeAccess_bounds h (submit_bounds s p _)
  | fence p token => exact writeAccess_bounds h (submit_bounds s p _)
  | badKind p kind => cases kind <;> exact writeAccess_bounds h (submit_bounds s p _)
  | request p => exact writeAccess_bounds h (request_frame s p).bounds
  | release p n => exact writeAccess_bounds h (release_frame s p n).bounds
  | setVisible p n v => exact writeAccess_bounds h (setVisible_frame s p n v).bounds
  | cancel p => exact writeAccess_bounds h (cancel_frame s p).bounds
  | uploadPush p w => exact writeAccess_bounds h (pushUpload_bounds s p w)
  | readbackPop p => exact readAccess_bounds h (popReadback_bounds s p)
  | noticeWord1 p => exact readAccess_bounds h (popNotice_bounds s p)
  | accessError p => exact readAccess_bounds h (setAccessError_bounds s p _)
  | lossCount p => exact readAccess_bounds h (clearLoss_bounds s p)
  | abort p => exact writeAccess_bounds h (abort_bounds s p)
  | intEnable p w => exact writeAccess_bounds h (writeIntEnable_bounds s p w)
  | noticeEnable p w => exact writeAccess_bounds h (writeNoticeEnable_bounds s p w)
  | badOffset p access => exact badOffset_bounds h
  | leaseTimeout p => exact ownEvent_bounds h (timeoutLease_frame s p).bounds
  | dataTimeout => exact ownEvent_bounds h (timeoutData_bounds s)
  | frameStart => exact ownEvent_bounds h (frameStart_bounds s)
  | lineDue => exact ownEvent_bounds h (lineDue_bounds s)
  | grantEvent => exact execGrantEvent_bounds h
  | underfillCompletion => exact ownEvent_bounds h (underfillCompletion_bounds s)
  | blockWriteCompletion => exact ownEvent_bounds h (blockWriteCompletion_bounds s)
  | engineReadDelivery => exact ownEvent_bounds h (engineReadDelivery_bounds s)
  | fetchCompletion => exact ownEvent_bounds h (fetchCompletion_bounds s)
  | clearWriteCompletion => exact ownEvent_bounds h (clearWriteCompletion_bounds s)
  | fenceTake p => exact ownEvent_bounds h (fenceTake_bounds s p)
  | spanPost => exact ownEvent_bounds h (spanPost_bounds s)
  | forwardedRead => exact ownEvent_bounds h (forwardedRead_bounds s)
  | uploadPop => exact ownEvent_bounds h (uploadPop_bounds s)
  | readbackPush => exact ownEvent_bounds h (readbackPush_bounds s)
  | spanSkip => exact ownEvent_bounds h (spanSkip_bounds s)
  | markEvent => exact ownEvent_bounds h (markEvent_bounds s)
  | commandEnd => exact ownEvent_bounds h (commandEnd_bounds s)
  | trailingBlankLine => exact ownEvent_bounds h (trailingBlankLine_bounds s)

/-- So does a word written to a register, but for a CONTROL write with DETACH set. -/
theorem writeRegister_bounds {s : State} {p : Port} {r : Register} {w : Word} (stays : r = .control → flag w 1 = false) :
    BoundsFrame s (s.writeRegister p r w) := by
  cases r with
  | cmdHandle | cmdRegionXY | cmdRegionWH | cmdRopMask | cmdColour | cmdFgBg | cmdPattern0 | cmdPattern1 | cmdOrigin
  | cmdSrcHandle | cmdSrcXY | cmdSrcKey => exact stageCommand_bounds s p _ w
  | leaseLayerRights | leaseRegionXY | leaseRegionWH | leaseVisKey | leaseFlags => exact stageLease_bounds s p _ w
  | intEnable => exact writeIntEnable_bounds s p w
  | noticeEnable => exact writeNoticeEnable_bounds s p w
  | submit => exact submit_bounds s p _
  | leaseOp => exact (leaseOp_frame s p _).bounds
  | uploadPush => exact pushUpload_bounds s p w
  | control =>
    simp only [State.writeRegister, State.writeControl, stays rfl, Bool.false_eq_true, if_false]
    split
    · exact abort_bounds s p
    · exact .refl s
  | config f => exact writeConfig_bounds s p f w
  | commit => exact takeCommit_bounds s p
  | submitResult | leaseResult | leaseHandle | readbackPop | noticeWord0 | noticeWord1 | portStatus | fifoStatus
  | accessError | lossCount | portInfo | pixelsWritten | pixelsKeyed | commandsDone | commandsFaulted | merges
  | fullForwards | underfills | voided | underruns | frames | commitResult | globalState => exact .refl s

/-- A well-formed register write is no detach. -/
theorem writeOffset_bounds {s : State} {p : Port} {offset : BitVec 8} {w : Word} (plain : plainRegisterWrite offset w = true) :
    BoundsFrame s (s.writeOffset p offset w) := by
  cases mapped : registerAt offset with
  | none => simp [plainRegisterWrite, mapped] at plain
  | some r =>
    have own : writeHasOwnRow r w = false := by simpa [plainRegisterWrite, mapped] using plain
    have stays : r = .control → flag w 1 = false := by
      rintro rfl
      obtain ⟨-, detach⟩ := Bool.or_eq_false_iff.mp own
      exact detach
    simpa [State.writeOffset, mapped] using writeRegister_bounds stays

/-! ### The commands that move a skip count -/

theorem skipsAfter_get (s : State) (p q : Port) : (s.skipsAfter p).get q =
    if q = p then 0 else if s.isCandidate q then min 15 (s.skips.get q + 1) else s.skips.get q := by cases q <;> rfl

section Bounded

variable {s : State} (h : s.Bounded)
include h

/-- Skip counts within their bound in place of the present ones (R72). -/
theorem State.Bounded.arbitrated {k : PerPort Nat} (hk : ∀ p, k.get p ≤ 15) (pointer : Port) :
    State.Bounded { s with skips := k, pointer := pointer } := { h with skips := hk }

/-- No pick takes a skip count beyond 15 (R74). -/
theorem State.Bounded.skipsAfter (p q : Port) : (s.skipsAfter p).get q ≤ 15 := by
  rw [skipsAfter_get]
  split
  · exact Nat.zero_le _
  · split
    · exact Nat.min_le_left _ _
    · exact h.skips q

theorem State.Bounded.choiceEvent : s.choiceEvent.Bounded := by
  unfold State.choiceEvent
  split
  · split
    · next p _ =>
      split
      · next c _ =>
        have left : BoundsFrame { s with skips := s.skipsAfter p, pointer := p }
            (State.onPort { s with skips := s.skipsAfter p, pointer := p } p fun hp => { hp with queue := hp.queue.tail }) :=
          onPort_bounds fun k => { k with queue := le_trans (by simp) k.queue }
        exact (h.arbitrated (h.skipsAfter p) p).of_frame (left.trans (startCommand_bounds _ p c))
      · exact h
    · exact h
  · exact h

omit h in
theorem hostPortReset_bounded (pin : PinLevel) : ({ HostPort.reset with resetPin := pin } : HostPort).Bounded :=
  ⟨Nat.zero_le _, Nat.zero_le _, Nat.zero_le _, Nat.zero_le _, Nat.zero_le _⟩

omit h in
theorem withdrawn_bounds (s : State) (p : Port) : BoundsFrame s (s.withdrawn p) := by
  have waits : LeaseFrame s (State.onLease { s with waitList := s.waitList.erase p } p fun _ => .reset) :=
    (waitList_frame s _).trans (onLease_frame _ p _)
  refine waits.bounds.trans (onBuffer_items_bounds
    (congrArg List.length (dropMarkers_entries p s.buffer.items)).le fun q => ?_)
  exact ((List.Sublist.filterMap _ List.filter_sublist).filter _).length_le

/-- A detach clears the port's skip count and resets its unit (R174). -/
theorem State.Bounded.detached (p : Port) : (s.detached p).Bounded := by
  have revoked : (s.dispossessed p).Bounded := h.of_frame ((withdrawn_bounds s p).trans (dispossessed_frame s p).bounds)
  have cleared : State.Bounded { s.dispossessed p with skips := (s.dispossessed p).skips.set p 0 } :=
    revoked.arbitrated (fun q => by
      rw [PerPort.get_set]
      split
      · exact Nat.zero_le _
      · exact revoked.skips q) _
  refine cleared.of_frame (BoundsFrame.trans (onEngine_bounds fun k => ?_) (onPort_bounds fun _ => hostPortReset_bounded _))
  unfold Engine.without
  split
  · intro a e; cases e
  · exact k

theorem State.Bounded.detach (p : Port) : (s.detach p).Bounded := by
  rw [detach_eq]
  split
  · exact (h.detached p).of_frame (evaluateWaitList_frame _).bounds
  · exact h.detached p

/-- A device reset leaves every queue empty and every count 0; surface memory keeps its form (R16, R135). -/
theorem State.Bounded.assertReset : s.assertReset.Bounded where
  skips p := by cases p <;> exact Nat.zero_le _
  ports p := by cases p <;> exact hostPortReset_bounded _
  buffer := ⟨Nat.zero_le _, fun _ => Nat.zero_le _⟩
  engine a e := by cases e
  memory := by
    show s.abandonAccess.memory.wf = true
    unfold State.abandonAccess
    split
    · exact Memory.writeBlock_wf h.memory _ _
    · exact h.memory
  composer := rfl

theorem State.Bounded.writeOffset (p : Port) (offset : BitVec 8) (w : Word) : (s.writeOffset p offset w).Bounded := by
  unfold State.writeOffset
  split
  · next r _ =>
    by_cases detaches : r = .control ∧ flag w 1 = true
    · obtain ⟨rfl, set⟩ := detaches
      simp only [State.writeRegister, State.writeControl, set, if_true]
      exact h.detach p
    · refine h.of_frame (writeRegister_bounds fun control => Bool.eq_false_of_not_eq_true fun set => ?_)
      exact detaches ⟨control, set⟩
  · exact h.of_frame (setAccessError_bounds s p _)

/-- Every command keeps the capacities and the laws of memory and of the frame number. -/
theorem State.Bounded.exec {t : State} {c : Instr} (e : exec c s = .next t) : t.Bounded := by
  cases arbiter : touchesArbiter c with
  | false => exact h.of_frame (exec_bounds arbiter e)
  | true =>
    cases c with
    | deviceReset => cases e; exact h.assertReset
    | portReset p level =>
      simp only [Machine.exec, execPortReset] at e
      split at e
      · cases e; exact h
      · cases level with
        | released => cases e; exact h.of_frame (onPort_stored_bounds s p rfl rfl rfl rfl rfl)
        | asserted =>
          cases e
          have detached : (ownEvent s fun u => u.detach p).Bounded := ownEvent_of h fun _ => h.detach p
          exact detached.of_frame (onPort_stored_bounds _ p rfl rfl rfl rfl rfl)
    | detach p abortToo => cases abortToo <;> cases e <;> exact writeAccess_of h fun _ => h.detach p
    | registerWrite p offset w => cases e; exact writeAccess_of h fun _ => h.writeOffset p offset w
    | choiceEvent => cases e; exact ownEvent_of h fun _ => h.choiceEvent
    | _ => cases arbiter

end Bounded

/-! ### The obligations -/

/-- Settles O55: a command runs with the queue's rest, which no bound reads, and a tick moves times alone. -/
theorem capacitiesKept : Obligations.CapacitiesKept := by
  intro s t capacities records e
  have h : s.Bounded := (bounded_iff s).mpr ⟨capacities, records⟩
  rw [← bounded_iff]
  unfold step at e
  split at e
  · next c rest _ =>
    have rested : State.Bounded { s with pending := rest } := { h with }
    exact rested.exec e
  · cases e
    exact h.of_frame (tick_bounds s)

end Sys2Proof.Machine
end

section
/-! SUPPORT. The Command Arbiter's choice: the first of a list in round-robin order, the pick, and what a choice event does
(R72 to R74). -/

namespace Sys2Proof.Machine

open Sys2Proof.Claims

/-! ### Candidates in round-robin order (R72, R73) -/

/-- An update of a Host Port Unit is known by the unit it gives. -/
theorem State.onPort_congr {s : State} {p : Port} {f g : HostPort → HostPort} (h : f (s.ports.get p) = g (s.ports.get p)) :
    s.onPort p f = s.onPort p g := by rw [State.onPort, h, State.onPort]

theorem headDraw_eq_some_iff (hp : HostPort) (c : DrawCommand) :
    hp.headDraw = some c ↔ ∃ rest, hp.queue = .draw c :: rest := by
  unfold HostPort.headDraw
  split
  · next c' rest queue => simp [queue]
  · next other => simpa using fun rest queue => other c rest queue

theorem isCandidate_iff (s : State) (p : Port) :
    s.isCandidate p = true ↔ ∃ c rest, (s.ports.get p).queue = .draw c :: rest := by
  simp only [State.isCandidate, Option.isSome_iff_exists, headDraw_eq_some_iff]

theorem mem_candidates (s : State) (p : Port) : p ∈ s.candidates ↔ s.isCandidate p = true := by
  have all : p ∈ roundRobin s.pointer := by cases s.pointer <;> cases p <;> decide
  simp [State.candidates, all]

theorem starving_iff (s : State) (p : Port) : s.starving p = true ↔ s.config.starveLimit.toNat ≤ s.skips.get p :=
  decide_eq_true_iff

/-- The round-robin order is the order of the turns (R73). -/
theorem roundRobin_turns (pointer : Port) :
    (roundRobin pointer).Pairwise fun p q => turn pointer p ≤ turn pointer q := by cases pointer <;> decide

/-- The first that satisfies a test, in a list sorted by a key, has the smallest key of those that satisfy it. -/
theorem find?_least {α : Type} {key : α → Nat} {l : List α} (sorted : l.Pairwise fun a b => key a ≤ key b)
    {P : α → Bool} {a : α} (found : l.find? P = some a) : ∀ b ∈ l, P b = true → key a ≤ key b := by
  obtain ⟨-, ahead, behind, rfl, fails⟩ := List.find?_eq_some_iff_append.mp found
  intro b m hb
  rcases List.mem_append.mp m with first | later
  · have := fails b first
    rw [hb] at this
    cases this
  rcases List.mem_cons.mp later with rfl | later
  · exact Nat.le_refl _
  · obtain ⟨-, fromHere, -⟩ := List.pairwise_append.mp sorted
    exact List.rel_of_pairwise_cons fromHere later

/-- The first candidate that satisfies a test is the one whose turn comes first (R73). -/
theorem find?_candidates {s : State} {P : Port → Bool} {p : Port} (found : s.candidates.find? P = some p) :
    s.isCandidate p = true ∧ P p = true ∧
      ∀ q, s.isCandidate q = true → P q = true → turn s.pointer p ≤ turn s.pointer q :=
  ⟨(mem_candidates s p).mp (List.mem_of_find?_eq_some found), List.find?_some found, fun q hq =>
    find?_least ((roundRobin_turns s.pointer).filter _) found q ((mem_candidates s q).mpr hq)⟩

/-! ### The pick (R73) -/

/-- Whether no candidate's precedence number is smaller than the port's. -/
def State.foremost (s : State) (p : Port) : Bool := s.candidates.all fun q => decide (s.precedence.get p ≤ s.precedence.get q)

theorem foremost_iff (s : State) (p : Port) : s.foremost p = true ↔
    ∀ q, s.isCandidate q = true → s.precedence.get p ≤ s.precedence.get q := by
  simp only [State.foremost, List.all_eq_true, decide_eq_true_iff, mem_candidates]

theorem pick_eq (s : State) : s.pick = (s.candidates.find? s.starving).or (s.candidates.find? s.foremost) := by
  unfold State.pick
  rw [← List.head?_filter (p := s.starving)]
  cases s.candidates.filter s.starving <;> rfl

/-- With a starving candidate, the pick is the first of them. -/
theorem pick_of_starving {s : State} (starved : ∃ q, s.isCandidate q = true ∧ s.starving q = true) :
    ∃ p, s.pick = some p ∧ s.candidates.find? s.starving = some p := by
  obtain ⟨q, candidate, starving⟩ := starved
  obtain ⟨p, found⟩ := Option.isSome_iff_exists.mp
    (List.find?_isSome.mpr ⟨q, (mem_candidates s q).mpr candidate, starving⟩)
  exact ⟨p, by rw [pick_eq, found]; rfl, found⟩

/-- With candidates and none of them starving, the pick is the first of those with the smallest precedence number. -/
theorem pick_of_not_starving {s : State} (candidates : ∃ q, s.isCandidate q = true)
    (fed : ∀ q, s.isCandidate q = true → s.starving q = false) :
    ∃ p, s.pick = some p ∧ s.candidates.find? s.foremost = some p := by
  obtain ⟨q, candidate⟩ := candidates
  have none : s.candidates.find? s.starving = none :=
    List.find?_eq_none.mpr fun r m => Bool.eq_false_iff.mp (fed r ((mem_candidates s r).mp m))
  obtain ⟨least, member, smallest⟩ := Finset.exists_min_image s.candidates.toFinset s.precedence.get
    ⟨q, List.mem_toFinset.mpr ((mem_candidates s q).mpr candidate)⟩
  obtain ⟨p, found⟩ := Option.isSome_iff_exists.mp (List.find?_isSome.mpr ⟨least, List.mem_toFinset.mp member,
    (foremost_iff s least).mpr fun r hr => smallest r (List.mem_toFinset.mpr ((mem_candidates s r).mpr hr))⟩)
  exact ⟨p, by rw [pick_eq, none, found]; rfl, found⟩

/-! ### The choice event (R72 to R74) -/

/-- A choice event of the IDLE engine with a pick: the head command leaves the port's queue for the engine. -/
theorem choiceEvent_of_pick {s : State} (idle : s.engine.state = .idle) {p : Port} (pick : s.pick = some p) {c : DrawCommand}
    {rest : List Command} (head : (s.ports.get p).queue = .draw c :: rest) :
    s.choiceEvent = (State.onPort { s with skips := s.skipsAfter p, pointer := p } p fun hp =>
      { hp with queue := rest }).startCommand p c := by
  have drawn : (s.ports.get p).headDraw = some c := (headDraw_eq_some_iff _ c).mpr ⟨rest, head⟩
  simp only [State.choiceEvent, idle, if_true, pick, drawn, State.choose]
  exact congrArg (State.startCommand · p c) (State.onPort_congr (by simp only [head, List.tail_cons]))

theorem exec_choiceEvent {s : State} (running : s.deviceReset = false) : exec .choiceEvent s = .next s.choiceEvent :=
  congrArg Host.Outcome.next (ownEvent_of_running running _)

/-- Settles O25: the pick is the first starving candidate, else the first of the smallest precedence number. -/
theorem choicePicks : Obligations.ChoicePicks := by
  intro s running idle candidate starved candidates
  have candidate_iff (q : Port) : candidate q ↔ s.isCandidate q = true := (isCandidate_iff s q).symm
  have starved_iff (q : Port) : starved q ↔ s.isCandidate q = true ∧ s.starving q = true := by
    rw [starving_iff, ← candidate_iff]
  have chosen {p : Port} (pick : s.pick = some p) (head : candidate p) : ∃ c rest, (s.ports.get p).queue = .draw c :: rest ∧
      exec .choiceEvent s = .next ((State.onPort { s with skips := s.skipsAfter p, pointer := p } p fun hp =>
        { hp with queue := rest }).startCommand p c) := by
    obtain ⟨c, rest, head⟩ := head
    exact ⟨c, rest, head, by rw [exec_choiceEvent running, choiceEvent_of_pick idle pick head]⟩
  have moved (p : Port) : (s.skipsAfter p).get p = 0 ∧
      (∀ q, q ≠ p → candidate q → (s.skipsAfter p).get q = min 15 (s.skips.get q + 1)) ∧
      (candidate p → ∀ q, ¬ candidate q → (s.skipsAfter p).get q = s.skips.get q) := by
    simp only [candidate_iff, skipsAfter_get, if_true, true_and]
    refine ⟨fun q other waits => by rw [if_neg other, if_pos waits], fun head q idles => ?_⟩
    rw [if_neg (by rintro rfl; exact idles head), if_neg idles]
  by_cases any : ∃ q, starved q
  · obtain ⟨p, pick, found⟩ := pick_of_starving (by simpa only [starved_iff] using any)
    obtain ⟨head, starving, first⟩ := find?_candidates found
    obtain ⟨c, rest, queue, event⟩ := chosen pick ((candidate_iff p).mpr head)
    obtain ⟨zero, raised, kept⟩ := moved p
    refine ⟨p, c, rest, s.skipsAfter p, queue, fun _ => ⟨(starved_iff p).mpr ⟨head, starving⟩, fun q hq => ?_⟩,
      fun fed => absurd any (not_exists.mpr fed), zero, raised, kept ((candidate_iff p).mpr head), event⟩
    obtain ⟨waits, starves⟩ := (starved_iff q).mp hq
    exact first q waits starves
  · obtain ⟨p, pick, found⟩ := pick_of_not_starving (s := s) (by simpa only [candidate_iff] using candidates) fun q hq =>
      Bool.eq_false_iff.mpr fun starving => any ⟨q, (starved_iff q).mpr ⟨hq, starving⟩⟩
    obtain ⟨head, foremost, first⟩ := find?_candidates found
    obtain ⟨c, rest, queue, event⟩ := chosen pick ((candidate_iff p).mpr head)
    obtain ⟨zero, raised, kept⟩ := moved p
    have smallest := (foremost_iff s p).mp foremost
    refine ⟨p, c, rest, s.skipsAfter p, queue, fun starves => absurd starves any,
      fun _ => ⟨fun q hq => ?_, fun q hq same => ?_⟩, zero, raised, kept ((candidate_iff p).mpr head), event⟩
    · exact smallest q ((candidate_iff q).mp hq)
    · exact first q ((candidate_iff q).mp hq) ((foremost_iff s q).mpr fun r hr => same ▸ smallest r hr)

/-! ### Where the skip counts move (R74) -/

/-- The assertion of a port reset pin is a detach; its release moves nothing of the arbiter. -/
theorem portRelease_bounds {s t : State} {p : Port} (h : execPortReset p .released s = .next t) : BoundsFrame s t := by
  unfold execPortReset at h
  split at h <;> cases h
  · exact .refl s
  · exact onPort_stored_bounds s p rfl rfl rfl rfl rfl

/-- No register shows a skip count or the pointer. -/
theorem readRegister_arbiter (s : State) (skips : PerPort Nat) (pointer p : Port) (r : Register) :
    readRegister { s with skips := skips, pointer := pointer } p r = readRegister s p r := by
  cases r <;> rfl

/-- Settles O26: what the pick moves is `skipsAfter`, and the commands that leave the bounds' frame alone are those named. -/
theorem skipCountsMoveOnlyAsStated : Obligations.SkipCountsMoveOnlyAsStated := by
  refine ⟨fun s p c rest pick head running idle => ?_, fun c s t wf choice reset detach pin h => ?_, fun s t empty h => ?_,
    fun s skips pointer p offset => ?_⟩
  · have started := startCommand_bounds (State.onPort { s with skips := s.skipsAfter p, pointer := p } p fun hp =>
      { hp with queue := rest }) p c
    refine ⟨_, by rw [exec_choiceEvent running, choiceEvent_of_pick idle pick head], started.pointer, ?_⟩
    simp only [started.skips, State.onPort_skips, skipsAfter_get, if_true, true_and]
    refine ⟨fun q other waits => ?_, fun q other idles => ?_⟩
    · rw [if_neg other, if_pos waits]; split <;> omega
    · rw [if_neg other, idles]; rfl
  · suffices kept : BoundsFrame s t from ⟨kept.skips, kept.pointer⟩
    cases other : touchesArbiter c with
    | false => exact exec_bounds other h
    | true =>
      cases c with
      | deviceReset => exact absurd rfl reset
      | choiceEvent => exact absurd rfl choice
      | detach p abortToo => exact absurd rfl (detach p abortToo)
      | portReset p level =>
        cases level with
        | asserted => exact absurd rfl (pin p)
        | released => exact portRelease_bounds h
      | registerWrite p offset w => exact writeAccess_bounds h (writeOffset_bounds wf)
      | _ => cases other
  · simp only [step, empty] at h
    cases h
    exact ⟨rfl, rfl⟩
  · unfold readValue
    simp only [readRegister_arbiter]
    rfl

end Sys2Proof.Machine
end

section
/-! SUPPORT. Which Host Port Units an access reaches: its own port's, and another's by postings alone (section 9, R79). -/

namespace Sys2Proof.Machine

/-! ### The other ports -/

/-- `t` agrees with `s` on every Host Port Unit but port `p`'s, apart from the notice queues and loss counts. -/
def OthersQuiet (p : Port) (s t : State) : Prop := ∀ q, q ≠ p → (t.ports.get q).quiet = (s.ports.get q).quiet

theorem OthersQuiet.refl (p : Port) (s : State) : OthersQuiet p s s := fun _ _ => rfl

theorem OthersQuiet.trans {p : Port} {s t u : State} (a : OthersQuiet p s t) (b : OthersQuiet p t u) : OthersQuiet p s u :=
  fun q other => (b q other).trans (a q other)

theorem LeaseFrame.others {s t : State} (f : LeaseFrame s t) (p : Port) : OthersQuiet p s t := fun q _ => f.ports q

theorem OthersQuiet.of_ports {s t : State} (ports : t.ports = s.ports) (p : Port) : OthersQuiet p s t :=
  fun q _ => by rw [ports]

theorem onPort_others (s : State) (p : Port) (f : HostPort → HostPort) : OthersQuiet p s (s.onPort p f) :=
  fun _ other => congrArg HostPort.quiet (State.onPort_get_of_ne s f other)

/-! ### The accesses -/

theorem submit_others (s : State) (p : Port) (u : Submission) : OthersQuiet p s (s.submit p u) := by
  unfold State.submit
  split
  · exact onPort_others s p _
  split
  · exact onPort_others s p _
  split <;> exact onPort_others s p _

/-- The running command of port `p` marked to end by an ABORT (R78). -/
def State.markedCurrent (s : State) (p : Port) : State := s.onCurrent fun a => if a.port = p then a.mark else a

/-- An ABORT marks the running command and is one update of its port's unit (R78). -/
theorem abort_eq (s : State) (p : Port) : s.abort p = (s.markedCurrent p).onPort p fun hp =>
    ({ hp with queue := [], upload := [] } : HostPort).offer (.queueAborted (s.ports.get p).queue.length) := by
  have commute (f : HostPort → HostPort) (g : ActiveCommand → ActiveCommand) :
      (s.onPort p f).onCurrent g = (s.onCurrent g).onPort p f := rfl
  rw [State.abort, commute, State.post, State.onPort_onPort, State.markedCurrent]

theorem abort_others (s : State) (p : Port) : OthersQuiet p s (s.abort p) := by
  rw [abort_eq]
  exact OthersQuiet.trans (.of_ports rfl p) (onPort_others (s.markedCurrent p) p _)

theorem restartDataTimer_others (s : State) (p : Port) (e : EngineState) : OthersQuiet p s (s.restartDataTimer p e) := by
  unfold State.restartDataTimer
  split
  · exact .of_ports rfl p
  · exact .refl p s

theorem pushUpload_others (s : State) (p : Port) (w : Word) : OthersQuiet p s (s.pushUpload p w) := by
  unfold State.pushUpload
  split
  · exact (onPort_others s p _).trans (restartDataTimer_others _ p _)
  · exact onPort_others s p _

theorem popReadback_others (s : State) (p : Port) : OthersQuiet p s (s.popReadback p) := by
  unfold State.popReadback
  split
  · exact onPort_others s p _
  · exact (onPort_others s p _).trans (restartDataTimer_others _ p _)

theorem writeConfig_others (s : State) (p : Port) (f : ConfigField) (w : Word) : OthersQuiet p s (s.writeConfig p f w) := by
  unfold State.writeConfig
  split
  · exact .of_ports rfl p
  · exact onPort_others s p _

/-- The entry to RUN posts SURFACE_READY to every port (R15). -/
theorem enterRun_others (s : State) (p : Port) : OthersQuiet p s s.enterRun :=
  OthersQuiet.trans (.of_ports rfl p) ((postAll_frame _ _).others p)

theorem takeCommit_others (s : State) (p : Port) : OthersQuiet p s (s.takeCommit p) := by
  unfold State.takeCommit
  split
  · split
    · simp only []
      split
      · exact .of_ports rfl p
      · exact enterRun_others { s with commitResult := .ok } p
    · exact onPort_others _ p _
  · exact onPort_others s p _

theorem detach_others (s : State) (p : Port) : OthersQuiet p s (s.detach p) := by
  have detached : OthersQuiet p s (s.detached p) := fun q other => congrArg HostPort.quiet (detached_port s p other)
  rw [detach_eq]
  split
  · exact detached.trans ((evaluateWaitList_frame _).others p)
  · exact detached

theorem writeControl_others (s : State) (p : Port) (w : Word) : OthersQuiet p s (s.writeControl p w) := by
  unfold State.writeControl
  split
  · exact detach_others s p
  split
  · exact abort_others s p
  · exact .refl p s

theorem writeRegister_others (s : State) (p : Port) (r : Register) (w : Word) : OthersQuiet p s (s.writeRegister p r w) := by
  cases r with
  | cmdHandle | cmdRegionXY | cmdRegionWH | cmdRopMask | cmdColour | cmdFgBg | cmdPattern0 | cmdPattern1 | cmdOrigin
  | cmdSrcHandle | cmdSrcXY | cmdSrcKey | leaseLayerRights | leaseRegionXY | leaseRegionWH | leaseVisKey | leaseFlags
  | intEnable | noticeEnable => exact onPort_others s p _
  | submit => exact submit_others s p _
  | leaseOp => exact (leaseOp_frame s p _).others p
  | uploadPush => exact pushUpload_others s p w
  | control => exact writeControl_others s p w
  | config f => exact writeConfig_others s p f w
  | commit => exact takeCommit_others s p
  | submitResult | leaseResult | leaseHandle | readbackPop | noticeWord0 | noticeWord1 | portStatus | fifoStatus
  | accessError | lossCount | portInfo | pixelsWritten | pixelsKeyed | commandsDone | commandsFaulted | merges
  | fullForwards | underfills | voided | underruns | frames | commitResult | globalState => exact .refl p s

theorem writeOffset_others (s : State) (p : Port) (offset : BitVec 8) (w : Word) :
    OthersQuiet p s (s.writeOffset p offset w) := by
  unfold State.writeOffset
  split
  · exact writeRegister_others s p _ w
  · exact onPort_others s p _

section Accesses

variable {s t : State} {p : Port} {f : State → State}

theorem writeAccess_others (h : Host.Outcome.next (φ := Fault) (ρ := Refusal) (writeAccess s p f) = .next t)
    (hf : OthersQuiet p s (f s)) : OthersQuiet p s t := by
  cases h
  exact writeAccess_of (P := OthersQuiet p s) (.refl p s) fun _ => hf

theorem readAccess_others {w : Word} (h : Host.Outcome.next (φ := Fault) (ρ := Refusal) (readAccess s p w f) = .next t)
    (hf : OthersQuiet p s (f s)) : OthersQuiet p s t := by
  cases h
  exact readAccess_of (P := OthersQuiet p s) (.refl p s) (fun _ => hf) fun _ _ k => k.trans (onPort_others _ p _)

end Accesses

theorem badOffset_others {s t : State} {p : Port} {access : BadAccess} (h : execBadOffset p access s = .next t) :
    OthersQuiet p s t :=
  badOffset_of h (.refl p s) (onPort_others s p _) fun _ _ k => k.trans (onPort_others _ p _)

/-- An access reaches the other ports' units by postings alone. -/
theorem exec_others {c : Instr} {p : Port} {s t : State} (access : accessPort c = some p) (h : exec c s = .next t) :
    OthersQuiet p s t := by
  cases c with
  | deviceReset | deviceResetEnd | portReset | leaseTimeout | dataTimeout | frameStart | lineDue | grantEvent
  | underfillCompletion | blockWriteCompletion | engineReadDelivery | fetchCompletion | clearWriteCompletion | choiceEvent
  | fenceTake | spanPost | forwardedRead | uploadPop | readbackPush | spanSkip | markEvent | commandEnd
  | trailingBlankLine => cases access
  | configWrite _ f w => cases access; exact writeAccess_others h (writeConfig_others s p f w)
  | commit _ w => cases access; exact writeAccess_others h (takeCommit_others s p)
  | fill _ tag notify => cases access; exact writeAccess_others h (submit_others s p _)
  | pattern _ tag notify => cases access; exact writeAccess_others h (submit_others s p _)
  | copy _ tag notify => cases access; exact writeAccess_others h (submit_others s p _)
  | upload _ tag notify => cases access; exact writeAccess_others h (submit_others s p _)
  | readback _ tag notify => cases access; exact writeAccess_others h (submit_others s p _)
  | fence _ token => cases access; exact writeAccess_others h (submit_others s p _)
  | badKind _ kind => cases access; cases kind <;> exact writeAccess_others h (submit_others s p _)
  | request _ => cases access; exact writeAccess_others h ((request_frame s p).others p)
  | release _ n => cases access; exact writeAccess_others h ((release_frame s p n).others p)
  | setVisible _ n v => cases access; exact writeAccess_others h ((setVisible_frame s p n v).others p)
  | cancel _ => cases access; exact writeAccess_others h ((cancel_frame s p).others p)
  | uploadPush _ w => cases access; exact writeAccess_others h (pushUpload_others s p w)
  | readbackPop _ => cases access; exact readAccess_others h (popReadback_others s p)
  | noticeWord1 _ => cases access; exact readAccess_others h (onPort_others s p _)
  | accessError _ => cases access; exact readAccess_others h (onPort_others s p _)
  | lossCount _ => cases access; exact readAccess_others h (onPort_others s p _)
  | abort _ => cases access; exact writeAccess_others h (abort_others s p)
  | detach _ abortToo => cases access; cases abortToo <;> exact writeAccess_others h (detach_others s p)
  | intEnable _ w => cases access; exact writeAccess_others h (onPort_others s p _)
  | noticeEnable _ w => cases access; exact writeAccess_others h (onPort_others s p _)
  | registerWrite _ offset w => cases access; exact writeAccess_others h (writeOffset_others s p offset w)
  | badOffset _ bad => cases access; exact badOffset_others h

/-- Settles O6: an access updates its own port's unit, and its postings alone reach another's. -/
theorem portsKeepTheirOwn : Obligations.PortsKeepTheirOwn :=
  fun _ _ q _ _ access other h => exec_others access h q other

end Sys2Proof.Machine
end

section
/-! SUPPORT. Submissions and ABORT: the checks of a SUBMIT write, the record that the staging registers give, and what an ABORT
marks (R64 to R69, R78, R79). -/

namespace Sys2Proof.Machine

open Sys2Proof.Claims

/-! ### The checks of a submission (R67) -/

section Submit

variable {s : State} {p : Port} {u : Submission}

theorem submit_of_not_run (idles : s.globalState ≠ .run) :
    s.submit p u = s.onPort p fun hp => { hp with submitResult := .notReady } := by simp [State.submit, idles]

theorem submit_of_full (run : s.globalState = .run) (full : 8 ≤ (s.ports.get p).queue.length) :
    s.submit p u = s.onPort p fun hp => { hp with submitResult := .queueFull } := by
  simp [State.submit, run, queueCapacity, full]

/-- In RUN with room in the queue, what the submission assembles decides it. -/
theorem submit_of_refused (run : s.globalState = .run) (room : ¬ 8 ≤ (s.ports.get p).queue.length) {r : SubmitResult}
    (refused : u.assemble (s.ports.get p).command = .error r) :
    s.submit p u = s.onPort p fun hp => { hp with submitResult := r } := by
  simp [State.submit, run, queueCapacity, room, refused]

theorem submit_of_accepted (run : s.globalState = .run) (room : ¬ 8 ≤ (s.ports.get p).queue.length) {c : Command}
    (accepted : u.assemble (s.ports.get p).command = .ok c) :
    s.submit p u = s.onPort p fun hp => { hp with submitResult := .accepted, queue := hp.queue ++ [c] } := by
  simp [State.submit, run, queueCapacity, room, accepted]

end Submit

section Assemble

variable {k : DrawingKind} {tag : BitVec 8} {notify : Bool} {c : CommandStaging}

theorem assemble_of_unstaged (staged : stagedCommand k tag notify c = none) :
    (Submission.drawing k tag notify).assemble c = .error .badField := by simp only [Submission.assemble, staged]

theorem assemble_of_staged {d : DrawCommand} (staged : stagedCommand k tag notify c = some d) :
    (Submission.drawing k tag notify).assemble c = .ok (.draw d) := by simp only [Submission.assemble, staged]

end Assemble

/-- The SUBMIT write of each kind is its submission. -/
theorem exec_submitted {s : State} {p : Port} (taken : s.takes p) (k : DrawingKind) (tag : BitVec 8) (notify : Bool) :
    exec (submitted k p tag notify) s = .next (s.submit p (.drawing k tag notify)) := by
  cases k <;> exact congrArg Host.Outcome.next (writeAccess_of_takes taken _)

theorem exec_fence {s : State} {p : Port} (taken : s.takes p) (token : BitVec 16) :
    exec (.fence p token) s = .next (s.submit p (.fence token)) := congrArg Host.Outcome.next (writeAccess_of_takes taken _)

theorem exec_badKind {s : State} {p : Port} (taken : s.takes p) (kind : NoKind) :
    exec (.badKind p kind) s = .next (s.submit p .noKind) := by
  cases kind <;> exact congrArg Host.Outcome.next (writeAccess_of_takes taken _)

/-- Settles O22: outside RUN, a full queue, and what the submission assembles, for each kind of it. -/
theorem submissionOutcome : Obligations.SubmissionOutcome := by
  intro p s taken hp ahead refused accepted
  simp only [refused, accepted, exec_submitted taken, exec_fence taken, exec_badKind taken]
  by_cases run : s.globalState = .run
  · by_cases full : 8 ≤ hp.queue.length
    · have failed : ahead = [(false, .notReady), (true, .queueFull)] := by simp [ahead, run, full]
      simp only [failed, firstFailure, submit_of_full run full]
      exact ⟨fun _ _ _ => rfl, fun _ => rfl, fun _ => rfl⟩
    · have passed : ahead = [(false, .notReady), (false, .queueFull)] := by simp [ahead, run, full]
      rw [passed]
      refine ⟨fun k tag notify => ?_, fun _ => congrArg _ (submit_of_accepted run full rfl),
        fun _ => congrArg _ (submit_of_refused run full rfl)⟩
      cases staged : stagedCommand k tag notify hp.command with
      | none => exact congrArg _ (submit_of_refused run full (assemble_of_unstaged staged))
      | some d => exact ⟨d, rfl, congrArg _ (submit_of_accepted run full (assemble_of_staged staged))⟩
  · have failed : ahead = [(true, .notReady), (decide (8 ≤ hp.queue.length), .queueFull)] := by simp [ahead, run]
    simp only [failed, firstFailure, submit_of_not_run run]
    exact ⟨fun _ _ _ => rfl, fun _ => rfl, fun _ => rfl⟩

/-! ### The record that the staging registers give (R64, R65, R68) -/

theorem stagedHandle_eq_none_iff (slot : BitVec 6) (generation : BitVec 8) :
    stagedHandle slot generation = none ↔ 31 < slot.toNat := by
  unfold stagedHandle
  split <;> simp <;> omega

theorem stagedHandle_eq_some {slot : BitVec 6} {generation : BitVec 8} {h : Handle}
    (e : stagedHandle slot generation = some h) : h.slot.val = slot.toNat ∧ h.generation = generation := by
  unfold stagedHandle at e
  split at e <;> cases e
  exact ⟨rfl, rfl⟩

theorem stagedRegion_eq_none_iff (c : CommandStaging) : stagedRegion c = none ↔
    2047 < c.x.toNat ∨ 2047 < c.y.toNat ∨ c.width = 0 ∨ 2048 < c.width.toNat ∨ c.height = 0 ∨
      2048 < c.height.toNat := by
  have width : c.width = 0 ↔ c.width.toNat = 0 := BitVec.toNat_inj.symm
  have height : c.height = 0 ↔ c.height.toNat = 0 := BitVec.toNat_inj.symm
  unfold stagedRegion
  rw [width, height]
  split <;> simp <;> omega

theorem stagedRegion_eq_some {c : CommandStaging} {r : Region} (e : stagedRegion c = some r) :
    r = ⟨c.x.toNat, c.y.toNat, c.width.toNat, c.height.toNat⟩ := by
  unfold stagedRegion at e
  split at e <;> cases e
  rfl

/-- Only a PATTERN's origin and a COPY's source can be out of range beside the handle and the region. -/
theorem stagedKind_eq_none_iff (k : DrawingKind) (c : CommandStaging) : stagedKind k c = none ↔
    (k = .copy ∧ (31 < c.sourceSlot.toNat ∨ 2047 < c.sourceX.toNat ∨ 2047 < c.sourceY.toNat)) ∨
      (k = .pattern ∧ (7 < c.originX.toNat ∨ 7 < c.originY.toNat)) := by
  cases k with
  | fill | upload | readback => simp [stagedKind]
  | pattern =>
    simp only [stagedKind]
    split <;> simp <;> omega
  | copy =>
    have source := stagedHandle_eq_none_iff c.sourceSlot c.sourceGeneration
    simp only [stagedKind]
    split
    · next h staged =>
      rw [staged] at source
      split <;> simp at source ⊢ <;> omega
    · next staged => simp [source.mp staged]

theorem stagedCommand_eq_none_iff (k : DrawingKind) (tag : BitVec 8) (notify : Bool) (c : CommandStaging) :
    stagedCommand k tag notify c = none ↔
      stagedHandle c.slot c.generation = none ∨ stagedRegion c = none ∨ stagedKind k c = none := by
  unfold stagedCommand
  split
  · next handle region kind => simp [handle, region, kind]
  · next missing =>
    refine ⟨fun _ => ?_, fun _ => rfl⟩
    by_contra present
    simp only [not_or, ← ne_eq, Option.ne_none_iff_exists'] at present
    obtain ⟨⟨n, handle⟩, ⟨r, region⟩, ⟨d, kind⟩⟩ := present
    exact missing n r d handle region kind

theorem stagedCommand_eq_some {k : DrawingKind} {tag : BitVec 8} {notify : Bool} {c : CommandStaging} {d : DrawCommand}
    (e : stagedCommand k tag notify c = some d) : d.tag = tag ∧ d.notify = notify ∧
      stagedHandle c.slot c.generation = some d.handle ∧ stagedRegion c = some d.region ∧ stagedKind k c = some d.kind := by
  unfold stagedCommand at e
  split at e <;> cases e
  next handle region kind => exact ⟨rfl, rfl, handle, region, kind⟩

/-- Settles O23: a missing record is a missing handle, region or kind, and a present one is made of the three. -/
theorem badFieldExactly : Obligations.BadFieldExactly := by
  intro k tag notify c
  refine ⟨?_, fun d e => ?_⟩
  · rw [stagedCommand_eq_none_iff, stagedHandle_eq_none_iff, stagedRegion_eq_none_iff, stagedKind_eq_none_iff]
    simp only [or_assoc]
  · obtain ⟨tags, notifies, handle, region, kind⟩ := stagedCommand_eq_some e
    obtain ⟨slot, generation⟩ := stagedHandle_eq_some handle
    refine ⟨tags, notifies, slot, generation, stagedRegion_eq_some region, ?_⟩
    cases k with
    | fill | upload | readback => exact (Option.some.inj kind).symm
    | pattern =>
      simp only [stagedKind] at kind
      split at kind
      · exact (Option.some.inj kind).symm
      · cases kind
    | copy =>
      simp only [stagedKind] at kind
      split at kind
      · next h source =>
        obtain ⟨sourceSlot, sourceGeneration⟩ := stagedHandle_eq_some source
        split at kind
        · exact ⟨h, sourceSlot, sourceGeneration, (Option.some.inj kind).symm⟩
        · cases kind
      · cases kind

/-! ### ABORT (R78, R79, R106) -/

theorem exec_abort {s : State} {p : Port} (taken : s.takes p) : exec (.abort p) s = .next (s.abort p) :=
  congrArg Host.Outcome.next (writeAccess_of_takes taken _)

theorem finished_iff (a : ActiveCommand) : a.finished = true ↔ a.position = none ∧ a.readbackCarry = none := by
  simp [ActiveCommand.finished]

/-- What an ABORT of the port leaves at the engine: a command of the port takes the mark. -/
theorem markedCurrent_engine {s : State} {p : Port} {a b : ActiveCommand} (current : s.engine.current = some a)
    (marked : (if a.port = p then a.mark else a) = b) :
    (s.markedCurrent p).engine = { s.engine with current := some b } := by
  simp only [State.markedCurrent, State.onCurrent, State.onEngine, current, Option.map_some, marked]

/-- A command that takes no mark leaves the engine as it is. -/
theorem markedCurrent_engine_same {s : State} {p : Port}
    (same : ∀ a, s.engine.current = some a → (if a.port = p then a.mark else a) = a) :
    (s.markedCurrent p).engine = s.engine := by
  cases current : s.engine.current with
  | none => simp only [State.markedCurrent, State.onCurrent, State.onEngine, current, Option.map_none]; rw [← current]
  | some a => rw [markedCurrent_engine current (same a current), ← current]

/-- Settles O24: one update of the port's unit, and the mark of `markedCurrent`. -/
theorem abortOutcome : Obligations.AbortOutcome := by
  intro p s taken
  refine ⟨s.abort p, exec_abort taken, ?_⟩
  rw [abort_eq]
  refine ⟨State.onPort_get_self _ p _, fun q other => State.onPort_get_of_ne _ _ other, fun a current own unmarked => ?_,
    fun a current own marked => ?_, fun others => ?_, rfl⟩
  · exact ⟨a.finished, finished_iff a, markedCurrent_engine current (by simp [own, ActiveCommand.mark, unmarked])⟩
  · refine markedCurrent_engine_same fun b held => ?_
    rw [current] at held
    cases held
    simp [own, ActiveCommand.mark, marked]
  · exact markedCurrent_engine_same fun a current => if_neg (others a current)

end Sys2Proof.Machine
end

section
/-! SUPPORT. The ends of a command, a finished span and the fence take (R76, R77, R91, R97, R103 to R106, R129, R130). -/

namespace Sys2Proof.Machine

open Sys2Proof.Claims

/-! ### The ends of a command (R104, R105) -/

theorem offer_commandsFaulted (n : Notice) (hp : HostPort) : (hp.offer n).commandsFaulted = hp.commandsFaulted := by
  show (hp.offer n).quiet.commandsFaulted = hp.quiet.commandsFaulted
  rw [HostPort.offer_quiet]

theorem offer_commandsDone (n : Notice) (hp : HostPort) : (hp.offer n).commandsDone = hp.commandsDone := by
  show (hp.offer n).quiet.commandsDone = hp.quiet.commandsDone
  rw [HostPort.offer_quiet]

/-- An update of a port's unit beside the release of the engine's command (R83). -/
theorem onPort_ended (s : State) (p : Port) (f : HostPort → HostPort) :
    (s.onPort p f).onEngine Engine.ended = State.onPort { s with engine := released s.engine } p f := rfl

/-- An end FAULT is one update of the port's unit and the engine's release (R105). -/
theorem endFault_eq (s : State) (p : Port) (c : DrawCommand) (code : FaultCode) (spans : Nat) :
    s.endFault p c code spans = faulted s p c.tag code spans := by
  rw [State.endFault, State.post, State.onPort_onPort, onPort_ended]
  simp only [offer_commandsFaulted]
  rfl

/-- An end DONE is one update of the port's unit and the engine's release (R104). -/
theorem endDone_eq (s : State) (p : Port) (c : DrawCommand) : s.endDone p c = doneState s p c := by
  unfold State.endDone doneState
  cases c.notify with
  | true => simp only [if_true, State.post, State.onPort_onPort, onPort_ended, offer_commandsDone]
  | false => exact onPort_ended s p _

theorem faultCurrent_eq (s : State) (a : ActiveCommand) (code : FaultCode) :
    s.faultCurrent a code = faulted s a.port a.command.tag code a.spansCompleted := endFault_eq s _ _ _ _

theorem mayEndDone_iff (a : ActiveCommand) : a.mayEndDone = true ↔
    a.position = none ∧ a.readbackCarry = none ∧ (a.endMark = false ∨ a.endDue = true) := by
  simp [ActiveCommand.mayEndDone, finished_iff, and_assoc]

/-- Settles the part of O38 on the mark event and the data timeout. -/
theorem markAndTimeoutFault : Claims.MarkAndTimeoutFault := by
  intro s a running current
  have mark : exec .markEvent s = .next s.markEvent := congrArg Host.Outcome.next (ownEvent_of_running running _)
  have timeout : exec .dataTimeout s = .next s.timeoutData := congrArg Host.Outcome.next (ownEvent_of_running running _)
  rw [mark, timeout]
  simp only [State.markEvent, State.timeoutData, current, faultCurrent_eq, Bool.and_eq_true, Bool.or_eq_true, beq_iff_eq,
    and_self]

/-! ### A finished span (R82, R88, R97, R98) -/

/-- The span that begins has no work but an UPLOAD's carry, which it takes (R98). -/
theorem beginSpan_spec (a : ActiveCommand) :
    a.beginSpan.position = a.position ∧ a.beginSpan.spansCompleted = a.spansCompleted ∧
      (if a.command.kind.isUpload = true ∧ a.position ≠ none then
        a.beginSpan.work = ⟨a.uploadCarry.toList, [], none, []⟩ ∧ a.beginSpan.uploadCarry = none
      else a.beginSpan.work = ⟨[], [], none, []⟩ ∧ a.beginSpan.uploadCarry = a.uploadCarry) ∧
      { a.beginSpan with work := a.work, uploadCarry := a.uploadCarry } = a := by
  have takes : (a.command.kind.isUpload && a.position.isSome) = true ↔
      a.command.kind.isUpload = true ∧ a.position ≠ none := by
    rw [Bool.and_eq_true, Option.isSome_iff_ne_none]
  unfold ActiveCommand.beginSpan
  by_cases carry : a.command.kind.isUpload = true ∧ a.position ≠ none
  · rw [if_pos (takes.mpr carry), if_pos carry]
    exact ⟨rfl, rfl, ⟨rfl, rfl⟩, rfl⟩
  · rw [if_neg (mt takes.mp carry), if_neg carry]
    exact ⟨rfl, rfl, ⟨rfl, rfl⟩, rfl⟩

/-- The finish of a span, with the pixels posted for it (R97). -/
theorem finishWriting_finished (s : State) (a : ActiveCommand) (q : SpanPosition) (written : Nat) :
    SpanFinished s (s.finishWriting a q written) a q written := by
  obtain ⟨position, spans, work, rest⟩ := beginSpan_spec
    { a with position := a.nextPosition q, spansCompleted := min 65535 (a.spansCompleted + 1) }
  refine ⟨a.finishSpan q, rfl, position, spans, ?_, ?_⟩
  · rw [show (a.finishSpan q).position = a.nextPosition q from position]
    exact work
  · exact congrArg (fun b : ActiveCommand => { b with position := a.position, spansCompleted := a.spansCompleted }) rest

/-- Settles the part of O38 on a skipped span and the end event. -/
theorem skippedSpanAndDoneEnd : Claims.SkippedSpanAndDoneEnd := by
  intro s a running current run
  have skip : exec .spanSkip s = .next s.spanSkip := congrArg Host.Outcome.next (ownEvent_of_running running _)
  have ends : exec .commandEnd s = .next s.commandEnd := congrArg Host.Outcome.next (ownEvent_of_running running _)
  rw [skip, ends]
  refine ⟨fun q position ready skipped => ⟨s.finishWriting a q 0, ?_, finishWriting_finished s a q 0⟩,
    fun position carry => ⟨fun due => ?_, fun marked late => ?_⟩⟩
  · have all : a.allSkipped q = true := List.all_eq_true.mpr skipped
    simp [State.spanSkip, current, position, run, ready, all]
  · have done : a.mayEndDone = true := (mayEndDone_iff a).mpr ⟨position, carry, due⟩
    simp [State.commandEnd, current, run, done, endDone_eq]
  · have refused : a.mayEndDone = false := by simp [ActiveCommand.mayEndDone, marked, late]
    simp [State.commandEnd, current, refused]

/-- Settles O38: the finish of a skipped span and the end event, and the ends FAULT on a mark and on the data timer. -/
theorem endsOfACommand : Obligations.EndsOfACommand := ⟨skippedSpanAndDoneEnd, markAndTimeoutFault⟩

/-! ### The fence take (R76, R77, R129, R130) -/

/-- Where no marker of the port completes, none leaves. -/
theorem withoutCompleting_of_completing_nil {p : Port} {items : List AgeItem} (none : completing p items = []) :
    withoutCompleting p items = items := by
  induction items with
  | nil => rfl
  | cons it rest ih =>
    cases it with
    | entry e =>
      rw [completing_entry] at none
      by_cases own : e.port = p
      · simp [withoutCompleting_entry, own]
      · simp [withoutCompleting_entry, own, ih (by simpa [own] using none)]
    | marker m =>
      rw [completing_marker] at none
      by_cases own : m.port = p
      · simp [own] at none
      · simp [withoutCompleting_marker, own, ih (by simpa [own] using none)]

/-- A young marker behind an entry of its port completes no more than before. -/
theorem completing_append_of_entry {p : Port} {items : List AgeItem}
    (held : ∃ e ∈ items.filterMap AgeItem.entry?, e.port = p) (young : List AgeItem) :
    completing p (items ++ young) = completing p items := by
  induction items with
  | nil => obtain ⟨e, m, -⟩ := held; cases m
  | cons it rest ih =>
    cases it with
    | entry e =>
      by_cases own : e.port = p
      · simp [completing_entry, own]
      · have behind : ∃ e ∈ rest.filterMap AgeItem.entry?, e.port = p := by simpa [own] using held
        simp [completing_entry, own, ih behind]
    | marker m =>
      have behind : ∃ e ∈ rest.filterMap AgeItem.entry?, e.port = p := by simpa using held
      by_cases own : m.port = p <;> simp [completing_marker, own, ih behind]

/-- Without an entry of the port, a young marker of it completes, after those that did before. -/
theorem completing_append_of_no_entry {p : Port} {items : List AgeItem}
    (free : ∀ e ∈ items.filterMap AgeItem.entry?, e.port ≠ p) (young : List AgeItem) :
    completing p (items ++ young) = completing p items ++ completing p young ∧
      withoutCompleting p (items ++ young) = withoutCompleting p items ++ withoutCompleting p young := by
  induction items with
  | nil => exact ⟨rfl, rfl⟩
  | cons it rest ih =>
    cases it with
    | entry e =>
      rw [entries_entry, List.forall_mem_cons] at free
      obtain ⟨other, behind⟩ := free
      obtain ⟨completes, leaves⟩ := ih behind
      simp [completing_entry, withoutCompleting_entry, other, completes, leaves]
    | marker m =>
      obtain ⟨completes, leaves⟩ := ih free
      by_cases own : m.port = p <;> simp [completing_marker, withoutCompleting_marker, own, completes, leaves]

/-- Under the marker law a fence's marker stays behind an entry of its port, or completes alone (R130). -/
theorem completing_fence {p : Port} {items : List AgeItem} (settled : completing p items = []) (token : BitVec 16) :
    ((∃ e ∈ items.filterMap AgeItem.entry?, e.port = p) →
      completing p (items ++ [AgeItem.marker ⟨p, token⟩]) = [] ∧
      withoutCompleting p (items ++ [AgeItem.marker ⟨p, token⟩]) = items ++ [AgeItem.marker ⟨p, token⟩]) ∧
    ((∀ e ∈ items.filterMap AgeItem.entry?, e.port ≠ p) →
      completing p (items ++ [AgeItem.marker ⟨p, token⟩]) = [⟨p, token⟩] ∧
      withoutCompleting p (items ++ [AgeItem.marker ⟨p, token⟩]) = items) := by
  refine ⟨fun held => ?_, fun free => ?_⟩
  · have stays : completing p (items ++ [AgeItem.marker ⟨p, token⟩]) = [] := by
      rw [completing_append_of_entry held, settled]
    exact ⟨stays, withoutCompleting_of_completing_nil stays⟩
  · obtain ⟨completes, leaves⟩ := completing_append_of_no_entry free [.marker ⟨p, token⟩]
    rw [completes, leaves, settled, withoutCompleting_of_completing_nil settled, completing_marker,
      withoutCompleting_marker, if_pos rfl, if_pos rfl]
    exact ⟨rfl, List.append_nil items⟩

theorem headFence_eq_some_iff (hp : HostPort) (token : BitVec 16) :
    hp.headFence = some token ↔ ∃ rest, hp.queue = .fence token :: rest := by
  unfold HostPort.headFence
  split
  · next token' rest queue => simp [queue]
  · next other => simpa using fun rest queue => other token rest queue

/-- The condition of the fence take beside the FENCE at the head (R76). -/
theorem fenceReady_iff (s : State) (p : Port) : s.fenceReady p = true ↔
    (∃ token, (s.ports.get p).headFence = some token) ∧ (∀ a, s.engine.current = some a → a.port ≠ p) ∧
      (s.buffer.markersOf p).length < 4 := by
  have idle : (s.engine.current.any fun a => a.port == p) = false ↔ ∀ a, s.engine.current = some a → a.port ≠ p := by
    cases s.engine.current <;> simp
  rw [State.fenceReady, Bool.and_eq_true, Bool.and_eq_true, Bool.not_eq_true', idle, Option.isSome_iff_exists,
    decide_eq_true_iff, and_assoc, markerCapacity]

/-- A fence take that is taken, in terms of the markers that complete (R77, R130). -/
theorem fenceTake_of_ready {s : State} {p : Port} (ready : s.fenceReady p = true) {token : BitVec 16} {rest : List Command}
    (head : (s.ports.get p).queue = .fence token :: rest) :
    s.fenceTake p = State.onPort { s with buffer := { s.buffer with
        items := withoutCompleting p (s.buffer.items ++ [AgeItem.marker ⟨p, token⟩]) } } p fun hp =>
      fenced (completing p (s.buffer.items ++ [AgeItem.marker ⟨p, token⟩])) { hp with queue := rest } := by
  have fence : (s.ports.get p).headFence = some token := (headFence_eq_some_iff _ token).mpr ⟨rest, head⟩
  have commute (f : HostPort → HostPort) (g h : Buffer → Buffer) :
      ((s.onPort p f).onBuffer g).onBuffer h = ((s.onBuffer g).onBuffer h).onPort p f := rfl
  rw [State.fenceTake, if_pos ready]
  simp only [fence, completeMarkers_eq, commute, State.onPort_onPort]
  have left : (s.ports.get p).queue.tail = rest := by rw [head, List.tail_cons]
  exact State.onPort_congr (congrArg (fun q => fenced _ { s.ports.get p with queue := q }) left)

/-- Settles O39: the marker law leaves the new marker alone to complete. -/
theorem fenceTakeOutcome : Obligations.FenceTakeOutcome := by
  intro s p running law free
  have event : exec (.fenceTake p) s = .next (s.fenceTake p) := congrArg Host.Outcome.next (ownEvent_of_running running _)
  have settled : completing p s.buffer.items = [] := (completing_eq_nil_iff p _).mpr (law p)
  rw [event]
  refine ⟨fun token rest head isFree => ?_, fun blocked => ?_⟩
  · have ready : s.fenceReady p = true :=
      (fenceReady_iff s p).mpr ⟨⟨token, (headFence_eq_some_iff _ token).mpr ⟨rest, head⟩⟩, isFree⟩
    obtain ⟨behind, alone⟩ := completing_fence settled token
    rw [fenceTake_of_ready ready head]
    refine ⟨fun held => ?_, fun none => ?_⟩
    · obtain ⟨completes, leaves⟩ := behind held
      rw [completes, leaves]
      rfl
    · obtain ⟨completes, leaves⟩ := alone none
      rw [completes, leaves]
      rfl
  · have refused : s.fenceReady p = false := Bool.eq_false_iff.mpr fun ready => by
      obtain ⟨⟨token, head⟩, isFree⟩ := (fenceReady_iff s p).mp ready
      obtain ⟨rest, head⟩ := (headFence_eq_some_iff _ token).mp head
      rcases blocked with other | busy
      · exact other token rest head
      · exact busy isFree
    simp [State.fenceTake, refused]

end Sys2Proof.Machine
end

section
/-! SUPPORT. The spans of a clipped rectangle and their order, and the order of a COPY (R88, R89). -/

namespace Sys2Proof.Machine

open Sys2Proof.Claims

/-! ### The pixels of a span (R88) -/

/-- A span holds the pixels of the clipped rectangle's columns that lie in its block column. -/
theorem mem_spanXs {a : ActiveCommand} {q : SpanPosition} {x : Nat} : x ∈ a.spanXs q ↔
    (a.left ≤ x ∧ x ≤ a.right) ∧ 16 * q.column ≤ x ∧ x ≤ 16 * q.column + 15 := by
  simp only [ActiveCommand.spanXs, ActiveCommand.spanLength, ActiveCommand.spanFrom, ActiveCommand.spanTo,
    List.mem_range'_1]
  omega

theorem nodup_spanXs (a : ActiveCommand) (q : SpanPosition) : (a.spanXs q).Nodup := List.nodup_range'

@[simp] theorem length_spanXs (a : ActiveCommand) (q : SpanPosition) : (a.spanXs q).length = a.spanLength q :=
  List.length_range'

/-! ### The spans in their order (R88, R89) -/

/-- The number of block columns that each row of the clipped rectangle meets. -/
def ActiveCommand.columns (a : ActiveCommand) : Nat := a.right / 16 + 1 - a.left / 16

/-- The `i`-th row in the command's order, counted from 0. -/
def ActiveCommand.rowAt (a : ActiveCommand) (i : Nat) : Nat := if a.rows = .downward then a.top + i else a.bottom - i

/-- The `j`-th block column of a row in the command's order, counted from 0. -/
def ActiveCommand.columnAt (a : ActiveCommand) (j : Nat) : Nat :=
  if a.blocks = .rightward then a.left / 16 + j else a.right / 16 - j

theorem right_eq (a : ActiveCommand) : a.right = a.left + a.clip.width - 1 := rfl

theorem bottom_eq (a : ActiveCommand) : a.bottom = a.top + a.clip.height - 1 := rfl

theorem columns_pos {a : ActiveCommand} (width : 1 ≤ a.clip.width) : 0 < a.columns := by
  have right := right_eq a
  unfold ActiveCommand.columns
  omega

theorem columnAt_zero (a : ActiveCommand) : a.columnAt 0 = a.firstColumn := by
  unfold ActiveCommand.columnAt ActiveCommand.firstColumn
  cases a.blocks <;> rfl

theorem firstPosition_eq (a : ActiveCommand) : a.firstPosition = ⟨a.rowAt 0, a.columnAt 0⟩ := by
  rw [columnAt_zero]
  unfold ActiveCommand.rowAt ActiveCommand.firstPosition
  cases a.rows <;> rfl

/-- Within a row the span of the next block column follows. -/
theorem nextPosition_columnAt {a : ActiveCommand} (row : Nat) {j : Nat} (within : j + 1 < a.columns) :
    a.nextPosition ⟨row, a.columnAt j⟩ = some ⟨row, a.columnAt (j + 1)⟩ := by
  unfold ActiveCommand.columns at within
  unfold ActiveCommand.nextPosition ActiveCommand.columnAt
  cases a.blocks with
  | rightward => exact if_pos (show a.left / 16 + j < a.right / 16 by omega)
  | leftward => exact if_pos (show a.left / 16 < a.right / 16 - j by omega)

/-- After the last block column of a row the next row follows. -/
theorem nextPosition_columnAt_last {a : ActiveCommand} (row : Nat) {j : Nat} (last : j + 1 = a.columns) :
    a.nextPosition ⟨row, a.columnAt j⟩ = a.nextRow row := by
  unfold ActiveCommand.columns at last
  unfold ActiveCommand.nextPosition ActiveCommand.columnAt
  cases a.blocks with
  | rightward => exact if_neg (show ¬ a.left / 16 + j < a.right / 16 by omega)
  | leftward => exact if_neg (show ¬ a.left / 16 < a.right / 16 - j by omega)

/-- The row after the `i`-th begins with its first span. -/
theorem nextRow_rowAt {a : ActiveCommand} {i : Nat} (within : i + 1 < a.clip.height) :
    a.nextRow (a.rowAt i) = some ⟨a.rowAt (i + 1), a.columnAt 0⟩ := by
  have bottom := bottom_eq a
  rw [columnAt_zero]
  unfold ActiveCommand.nextRow ActiveCommand.rowAt
  cases a.rows with
  | downward => exact if_pos (show a.top + i < a.bottom by omega)
  | upward => exact if_pos (show a.top < a.bottom - i by omega)

/-- No row follows the last. -/
theorem nextRow_rowAt_last {a : ActiveCommand} {i : Nat} (last : i + 1 = a.clip.height) :
    a.nextRow (a.rowAt i) = none := by
  have bottom := bottom_eq a
  unfold ActiveCommand.nextRow ActiveCommand.rowAt
  cases a.rows with
  | downward => exact if_neg (show ¬ a.top + i < a.bottom by omega)
  | upward => exact if_neg (show ¬ a.top < a.bottom - i by omega)

/-- The spans are counted row by row, each row's block columns one by one. -/
theorem nthSpan_columns_mul_add {a : ActiveCommand} {i j : Nat} (row : i < a.clip.height)
    (column : j < a.columns) : nthSpan a (a.columns * i + j) = some ⟨a.rowAt i, a.columnAt j⟩ := by
  induction i generalizing j with
  | zero =>
    induction j with
    | zero => exact congrArg some (firstPosition_eq a)
    | succ j ih =>
      rw [← Nat.add_assoc, nthSpan, ih (by omega), Option.bind_some, nextPosition_columnAt _ column]
  | succ i next =>
    induction j with
    | zero =>
      have last : a.columns - 1 + 1 = a.columns := Nat.succ_pred_eq_of_pos column
      rw [Nat.mul_succ, Nat.add_zero]
      conv_lhs => rw [← last, ← Nat.add_assoc, nthSpan, last, next (by omega) (by omega)]
      rw [Option.bind_some, nextPosition_columnAt_last _ last, nextRow_rowAt row]
    | succ j ih =>
      rw [← Nat.add_assoc, nthSpan, ih (by omega), Option.bind_some, nextPosition_columnAt _ column]

/-- The `n`-th span is that of row `n / columns` and block column `n % columns` in the command's order. -/
theorem nthSpan_of_lt {a : ActiveCommand} (width : 1 ≤ a.clip.width) {n : Nat} (inside : n < a.clip.height * a.columns) :
    nthSpan a n = some ⟨a.rowAt (n / a.columns), a.columnAt (n % a.columns)⟩ := by
  have position := nthSpan_columns_mul_add ((Nat.div_lt_iff_lt_mul (columns_pos width)).mpr inside)
    (Nat.mod_lt n (columns_pos width))
  rwa [Nat.div_add_mod] at position

/-- No span follows the last of the last row. -/
theorem nthSpan_of_le {a : ActiveCommand} (width : 1 ≤ a.clip.width) (height : 1 ≤ a.clip.height) {n : Nat}
    (past : a.clip.height * a.columns ≤ n) : nthSpan a n = none := by
  induction past with
  | refl =>
    obtain ⟨rows, hrows⟩ : ∃ rows, a.clip.height = rows + 1 := ⟨a.clip.height - 1, by omega⟩
    obtain ⟨others, hothers⟩ : ∃ others, a.columns = others + 1 := ⟨a.columns - 1, by have := columns_pos width; omega⟩
    have count : a.clip.height * a.columns = a.columns * rows + others + 1 := by
      rw [hrows, Nat.mul_comm, Nat.mul_succ, Nat.add_assoc, ← hothers]
    rw [count, nthSpan, nthSpan_columns_mul_add (by omega) (by omega), Option.bind_some,
      nextPosition_columnAt_last _ hothers.symm, nextRow_rowAt_last hrows.symm]
  | step _ ih => rw [nthSpan, ih, Option.bind_none]

/-- Settles O28: the spans are those of the rows and block columns in the command's order. -/
theorem spansCoverTheRectangle : Obligations.SpansCoverTheRectangle := by
  intro a width height
  refine ⟨fun n inside => nthSpan_of_lt width inside, nthSpan_of_le width height (Nat.le_refl _), fun q x => ?_⟩
  have right := right_eq a
  rw [mem_spanXs, show a.rectangle.x = a.left from rfl, show a.rectangle.width = a.clip.width from rfl]
  omega

/-! ### The order of a COPY (R89) -/

theorem regionsOverlap_iff (a b : Region) : regionsOverlap a b = true ↔
    (a.x < b.x + b.width ∧ b.x < a.x + a.width) ∧ a.y < b.y + b.height ∧ b.y < a.y + a.height := by
  simp only [regionsOverlap, Bool.and_eq_true, decide_eq_true_eq, and_assoc]

/-- An earlier span lies in an earlier row, or in the same row at an earlier block column. -/
theorem nthSpan_before {a : ActiveCommand} (width : 1 ≤ a.clip.width) (height : 1 ≤ a.clip.height) {m n : Nat}
    {earlier q : SpanPosition} (before : m < n) (first : nthSpan a m = some earlier) (second : nthSpan a n = some q) :
    ∃ i j k l, earlier = ⟨a.rowAt i, a.columnAt j⟩ ∧ q = ⟨a.rowAt k, a.columnAt l⟩ ∧ k < a.clip.height ∧ l < a.columns ∧
      (i < k ∨ i = k ∧ j < l) := by
  have inside : n < a.clip.height * a.columns := by
    by_contra past
    rw [nthSpan_of_le width height (Nat.le_of_not_lt past)] at second
    cases second
  rw [nthSpan_of_lt width (before.trans inside)] at first
  rw [nthSpan_of_lt width inside] at second
  cases first
  cases second
  refine ⟨_, _, _, _, rfl, rfl, (Nat.div_lt_iff_lt_mul (columns_pos width)).mpr inside,
    Nat.mod_lt n (columns_pos width), ?_⟩
  have rows : m / a.columns ≤ n / a.columns := Nat.div_le_div_right before.le
  rcases rows.lt_or_eq with less | same
  · exact .inl less
  · refine .inr ⟨same, ?_⟩
    have splitM := Nat.div_add_mod m a.columns
    have splitN := Nat.div_add_mod n a.columns
    rw [same] at splitM
    omega

/-- What the order of R89 gives for two spans: where the source lies above, the rows run upward; where it lies to the left in the
same rows, the block columns run leftward; else both run forward. -/
theorem copyOrder_cases (layer : Layer) (r : Region) (sx sy : Nat) (c : Clip) :
    (regionsOverlap (c.at r.x r.y) (c.at sx sy) = false ∧ copyOrder layer layer r sx sy c = (.downward, .rightward)) ∨
    (sy < r.y ∧ copyOrder layer layer r sx sy c = (.upward, .rightward)) ∨
    (r.y = sy ∧ sx < r.x ∧ copyOrder layer layer r sx sy c = (.downward, .leftward)) ∨
    ((r.y < sy ∨ r.y = sy ∧ r.x ≤ sx) ∧ copyOrder layer layer r sx sy c = (.downward, .rightward)) := by
  unfold copyOrder
  split
  · split
    · next above => exact .inr (.inl ⟨above, rfl⟩)
    · split
      · next beside => exact .inr (.inr (.inl ⟨beside.1, beside.2, rfl⟩))
      · exact .inr (.inr (.inr ⟨by omega, rfl⟩))
  · next apart => exact .inl ⟨by simpa using apart, rfl⟩

/-- Settles O29: a pixel that an earlier span writes lies on the far side of the span, away from its source. -/
theorem copyReadsBeforeItWrites : Obligations.CopyReadsBeforeItWrites := by
  intro a rop mask h sx sy key _ width height layers order m n earlier q before first second x inside ⟨row, written⟩
  obtain ⟨i, j, k, l, rfl, rfl, hk, hl, less⟩ := nthSpan_before width height before first second
  rw [mem_spanXs] at inside written
  have right := right_eq a
  have bottom := bottom_eq a
  have left : a.left = a.command.region.x + a.clip.dx := rfl
  have top : a.top = a.command.region.y + a.clip.dy := rfl
  simp only at row inside written
  unfold ActiveCommand.columns at hl
  rw [← layers] at order
  rcases copyOrder_cases a.layer a.command.region sx sy a.clip with
    ⟨apart, e⟩ | ⟨above, e⟩ | ⟨level, beside, e⟩ | ⟨forward, e⟩
  all_goals
    rw [e, Prod.mk.injEq] at order
    obtain ⟨rows, blocks⟩ := order
    simp only [ActiveCommand.rowAt, ActiveCommand.columnAt, rows, blocks, if_true, reduceCtorEq, if_false] at row inside written
  · have pixel : regionsOverlap (a.clip.at a.command.region.x a.command.region.y) (a.clip.at sx sy) = true := by
      simp only [regionsOverlap_iff, Clip.at]
      omega
    rw [pixel] at apart
    cases apart
  · omega
  · omega
  · omega

end Sys2Proof.Machine
end

section
/-! SUPPORT. The value of each pixel: raster operations, source values, skipped pixels and what a post carries (R87, R90 to R94,
R97, R98). -/

namespace Sys2Proof.Machine

open Sys2Proof.Claims

/-! ### Raster operations (R92, R93) -/

/-- A raster operation works plane by plane (R92). -/
theorem applyRop_getLsbD (rop : BitVec 4) (s d : Pixel) {i : Nat} (plane : i < 16) :
    (applyRop rop s d).getLsbD i = ropBit rop (s.getLsbD i) (d.getLsbD i) := by
  have planes (b : Bool) (v : Pixel) : (planesWhen b v).getLsbD i = (b && v.getLsbD i) := by cases b <;> simp [planesWhen]
  unfold applyRop ropBit
  simp only [BitVec.getLsbD_or, planes, BitVec.getLsbD_and, BitVec.getLsbD_not, plane, decide_true, Bool.true_and]
  cases s.getLsbD i <;> cases d.getLsbD i <;> simp

/-- The written value plane by plane (R93). -/
theorem writtenValue_getLsbD (rop : BitVec 4) (mask s d : Pixel) {i : Nat} (plane : i < 16) :
    (writtenValue rop mask s d).getLsbD i =
      if mask.getLsbD i then ropBit rop (s.getLsbD i) (d.getLsbD i) else d.getLsbD i := by
  unfold writtenValue
  simp only [BitVec.getLsbD_or, BitVec.getLsbD_and, BitVec.getLsbD_not, applyRop_getLsbD rop s d plane, plane, decide_true,
    Bool.true_and]
  cases mask.getLsbD i <;> simp

/-- The rops that the table does not mark "Uses D" are those whose truth table has the same bit for both values of D (R92). -/
theorem ropUsesD_eq_false_iff (rop : BitVec 4) : ropUsesD rop = false ↔ ∀ s d e, ropBit rop s d = ropBit rop s e := by
  revert rop
  decide

theorem ropUsesD_eq_false_iff_applyRop (rop : BitVec 4) :
    ropUsesD rop = false ↔ ∀ s d e : Pixel, applyRop rop s d = applyRop rop s e := by
  rw [ropUsesD_eq_false_iff]
  refine ⟨fun same s d e => BitVec.eq_of_getLsbD_eq fun i plane => ?_, fun same s d e => ?_⟩
  · rw [applyRop_getLsbD rop s d plane, applyRop_getLsbD rop s e plane, same]
  · have filled (b : Bool) : (if b then 0xFFFF else 0 : Pixel).getLsbD 0 = b := by cases b <;> rfl
    have bit := congrArg (BitVec.getLsbD · 0)
      (same (if s then 0xFFFF else 0) (if d then 0xFFFF else 0) (if e then 0xFFFF else 0))
    simpa only [applyRop_getLsbD rop _ _ (Nat.zero_lt_succ 15), filled] using bit

/-- Settles O30: the rule plane by plane, and a look at the sixteen truth tables. -/
theorem ropTruthTable : Obligations.RopTruthTable :=
  ⟨fun rop mask s d _ plane => writtenValue_getLsbD rop mask s d plane, ropUsesD_eq_false_iff_applyRop⟩

/-! ### Source values (R87, R90, R98) -/

/-- Pixel `i` of a block, for the position that a block has. -/
theorem getElem?_eq_blockPixel (b : Block) {i : Nat} (inside : i < 16) : b[i]? = some (blockPixel b i) := by
  rw [blockPixel, dif_pos inside, Vector.getElem?_eq_getElem inside]

theorem spanFrom_le_and_le_spanTo {a : ActiveCommand} {q : SpanPosition} {x : Nat} (inside : x ∈ a.spanXs q) :
    a.spanFrom q ≤ x ∧ x ≤ a.spanTo q := by
  rw [mem_spanXs] at inside
  unfold ActiveCommand.spanFrom ActiveCommand.spanTo
  omega

/-- A span lies in one block. -/
theorem spanTo_le (a : ActiveCommand) (q : SpanPosition) : a.spanTo q ≤ a.spanFrom q + 15 := by
  unfold ActiveCommand.spanFrom ActiveCommand.spanTo
  omega

section Copy

variable {a : ActiveCommand} {rop : BitVec 4} {mask : Pixel} {source : Handle} {sx sy : Nat} {key : Option Pixel}
  (kind : a.command.kind = .copy rop mask source sx sy key) {q : SpanPosition}
include kind

/-- The source blocks of a COPY span run from its first source block column to its last (R94). -/
theorem sourceBlockNames_of_copy : a.sourceBlockNames q =
    (List.range (a.sourceXOf sx (a.spanTo q) / 16 + 1 - a.sourceXOf sx (a.spanFrom q) / 16)).map fun k =>
      ⟨a.sourceLayer, sy + (q.row - a.command.region.y), a.sourceXOf sx (a.spanFrom q) / 16 + k⟩ := by
  simp only [ActiveCommand.sourceBlockNames, kind, List.range'_eq_map_range, List.map_map]
  rfl

/-- The sixteen source pixels of a span meet one block or two (R94). -/
theorem sourceBlockNames_one_or_two {x : Nat} (inside : x ∈ a.spanXs q) :
    ∃ n, (n = 1 ∨ n = 2) ∧ a.sourceBlockNames q = (List.range n).map fun k =>
      ⟨a.sourceLayer, sy + (q.row - a.command.region.y), a.sourceXOf sx (a.spanFrom q) / 16 + k⟩ := by
  refine ⟨_, ?_, sourceBlockNames_of_copy kind⟩
  have ends := spanFrom_le_and_le_spanTo inside
  have short := spanTo_le a q
  unfold ActiveCommand.sourceXOf
  omega

/-- With its source blocks delivered, the source value of a COPY's pixel is its source pixel (R87, R90). -/
theorem sourceValue_of_copy {surface : BlockName → Block}
    (delivered : a.work.sourceBlocks = (a.sourceBlockNames q).map surface) {x : Nat} (inside : x ∈ a.spanXs q) :
    some (a.sourceValue q x) = (surface ⟨a.sourceLayer, sy + (q.row - a.command.region.y), a.sourceXOf sx x / 16⟩)[
      a.sourceXOf sx x % 16]? := by
  have ends := spanFrom_le_and_le_spanTo inside
  have first : a.sourceXOf sx (a.spanFrom q) / 16 ≤ a.sourceXOf sx x / 16 := by
    unfold ActiveCommand.sourceXOf
    omega
  have last : a.sourceXOf sx x / 16 ≤ a.sourceXOf sx (a.spanTo q) / 16 := by
    unfold ActiveCommand.sourceXOf
    omega
  have block : a.work.sourceBlocks[a.sourceXOf sx x / 16 - a.sourceXOf sx (a.spanFrom q) / 16]? =
      some (surface ⟨a.sourceLayer, sy + (q.row - a.command.region.y), a.sourceXOf sx x / 16⟩) := by
    rw [delivered, sourceBlockNames_of_copy kind, List.getElem?_map, List.getElem?_map, List.getElem?_range (by omega)]
    simp only [Option.map_some, Nat.add_sub_cancel' first]
  rw [getElem?_eq_blockPixel _ (Nat.mod_lt _ (Nat.zero_lt_succ 15))]
  simp only [ActiveCommand.sourceValue, kind, List.getD_eq_getElem?_getD, block, Option.getD_some]

end Copy

/-- Settles the part of O31 on source values. -/
theorem sourceValues : Claims.SourceValues := by
  intro a q x inside _ _
  cases kind : a.command.kind with
  | fill => simp only [ActiveCommand.sourceValue, kind]
  | pattern =>
    simp only [ActiveCommand.sourceValue, kind]
    rfl
  | copy => exact ⟨sourceBlockNames_one_or_two kind inside, fun surface delivered => sourceValue_of_copy kind delivered inside⟩
  | upload =>
    intro v gathered
    simp only [ActiveCommand.sourceValue, kind, List.getD_eq_getElem?_getD, gathered, Option.getD_some]
  | readback => trivial

/-! ### Skipped pixels (R91, R97) -/

/-- Settles the part of O31 on skipped pixels. -/
theorem skippedPixels : Claims.SkippedPixels := by
  intro a q x
  cases kind : a.command.kind with
  | fill => simp only [ActiveCommand.skipped, ActiveCommand.keyedOut, kind, and_self]
  | pattern =>
    simp only [ActiveCommand.skipped, ActiveCommand.keyedOut, kind, Bool.and_eq_true, Bool.not_eq_true', true_and]
    rfl
  | copy | upload => simp only [ActiveCommand.skipped, ActiveCommand.keyedOut, kind, beq_iff_eq, and_self]
  | readback => trivial

theorem allSkipped_eq_false_iff (a : ActiveCommand) (q : SpanPosition) :
    a.allSkipped q = false ↔ ∃ x ∈ a.spanXs q, a.skipped q x = false := by
  simp only [ActiveCommand.allSkipped, List.all_eq_false, Bool.not_eq_true]

/-! ### Readiness (R93, R94) -/

/-- D is needed where the rop's result depends on it or the plane mask leaves a plane out (R93). -/
theorem needsD_iff {k : DrawKind} {rop : BitVec 4} {mask : Pixel} (writes : k.ropMask = some (rop, mask)) :
    k.needsD = true ↔ (∃ s d e : Pixel, applyRop rop s d ≠ applyRop rop s e) ∨ mask ≠ 0xFFFF := by
  have uses : ropUsesD rop = true ↔ ∃ s d e : Pixel, applyRop rop s d ≠ applyRop rop s e := by
    rw [← Bool.not_eq_false, ropUsesD_eq_false_iff_applyRop]
    simp only [not_forall, ne_eq]
  simp only [DrawKind.needsD, writes, Bool.or_eq_true, uses, bne_iff_ne]

theorem postReady_iff (a : ActiveCommand) (q : SpanPosition) : a.postReady q = true ↔ a.sourceReady q = true ∧
    (∃ x ∈ a.spanXs q, a.skipped q x = false) ∧ (a.command.kind.needsD = true → a.work.destBlock ≠ none) := by
  rw [ActiveCommand.postReady, Bool.and_eq_true, Bool.and_eq_true, Bool.not_eq_true', allSkipped_eq_false_iff,
    Bool.or_eq_true, Bool.not_eq_true', Option.isSome_iff_ne_none, ← Bool.not_eq_true, ← imp_iff_not_or, and_assoc]

/-- Settles the part of O31 on readiness. -/
theorem spanReadiness : Claims.SpanReadiness := by
  refine ⟨fun a q => ?_, fun k => ?_, postReady_iff⟩
  · cases kind : a.command.kind <;> simp [ActiveCommand.sourceReady, kind]
  · cases k with
    | readback => exact iff_of_false Bool.false_ne_true id
    | fill | pattern | copy | upload => exact needsD_iff rfl

/-! ### What a post carries (R92 to R94, R97) -/

theorem spanMask_getElem (a : ActiveCommand) (q : SpanPosition) (i : Fin 16) :
    (a.spanMask q)[i] = (!a.skipped q (16 * q.column + i.val) && decide (16 * q.column + i.val ∈ a.spanXs q)) := by
  have inside : 16 * q.column + i.val ∈ a.spanXs q ↔
      a.spanFrom q ≤ 16 * q.column + i.val ∧ 16 * q.column + i.val ≤ a.spanTo q := by
    rw [mem_spanXs]
    unfold ActiveCommand.spanFrom ActiveCommand.spanTo
    omega
  simp only [ActiveCommand.spanMask, Fin.getElem_fin, Vector.getElem_ofFn, inside, Bool.decide_and, Bool.and_comm]

/-- A span's pixels are those of its block's sixteen that lie in the clipped rectangle. -/
theorem filter_block_perm_spanXs (a : ActiveCommand) (q : SpanPosition) :
    ((List.range' (16 * q.column) 16).filter fun x => decide (x ∈ a.spanXs q)).Perm (a.spanXs q) := by
  refine (List.perm_ext_iff_of_nodup (List.Nodup.filter _ List.nodup_range') (nodup_spanXs a q)).mpr fun x => ?_
  simp only [List.mem_filter, decide_eq_true_eq, List.mem_range'_1, mem_spanXs]
  omega

/-- The mask of a span counts its pixels that are not skipped (R97). -/
theorem maskCount_spanMask (a : ActiveCommand) (q : SpanPosition) :
    maskCount (a.spanMask q) = (a.spanXs q).countP fun x => !a.skipped q x := by
  have block : (a.spanMask q).toList = (List.range' (16 * q.column) 16).map fun x =>
      !a.skipped q x && decide (x ∈ a.spanXs q) := by
    refine List.ext_getElem (by simp) fun i inside _ => ?_
    have position := spanMask_getElem a q ⟨i, by simpa using inside⟩
    simpa using position
  rw [maskCount, block, List.countP_map, Function.id_comp, ← List.countP_filter,
    (filter_block_perm_spanXs a q).countP_eq]

theorem spanValues_getElem {a : ActiveCommand} {rop : BitVec 4} {mask : Pixel}
    (writes : a.command.kind.ropMask = some (rop, mask)) (q : SpanPosition) (i : Fin 16) : (a.spanValues q)[i] =
      writtenValue rop mask (a.sourceValue q (16 * q.column + i.val)) (a.work.destBlock.getD zeroBlock)[i] := by
  simp only [ActiveCommand.spanValues, writes, Fin.getElem_fin, Vector.getElem_ofFn, blockPixel, i.isLt, dif_pos]

/-- Where D is not needed the written value is the same for every D (R93). -/
theorem writtenValue_of_not_needsD {k : DrawKind} {rop : BitVec 4} {mask : Pixel} (writes : k.ropMask = some (rop, mask))
    (unused : k.needsD = false) (s d e : Pixel) : writtenValue rop mask s d = writtenValue rop mask s e := by
  have both := mt (needsD_iff writes).mpr (Bool.eq_false_iff.mp unused)
  simp only [not_or, not_exists, ne_eq, not_not] at both
  obtain ⟨same, rfl⟩ := both
  have every : ~~~(0xFFFF : Pixel) = 0#16 := rfl
  simp only [writtenValue, every, BitVec.and_zero, same s d e]

/-- The values of a span at each position, with the destination block and without (R93, R94). -/
theorem spanValues_carries {a : ActiveCommand} {k : DrawKind} {rop : BitVec 4} {mask : Pixel} (kind : a.command.kind = k)
    (writes : k.ropMask = some (rop, mask)) (q : SpanPosition) (i : Fin 16) :
    (∀ d : Block, a.work.destBlock = some d →
      (a.spanValues q)[i] = writtenValue rop mask (a.sourceValue q (16 * q.column + i.val)) d[i]) ∧
    (k.needsD = false → ∀ d : Pixel,
      (a.spanValues q)[i] = writtenValue rop mask (a.sourceValue q (16 * q.column + i.val)) d) := by
  subst kind
  rw [spanValues_getElem writes q i]
  exact ⟨fun d delivered => by rw [delivered, Option.getD_some],
    fun unused d => writtenValue_of_not_needsD writes unused _ _ d⟩

/-- Settles the part of O31 on the contents of a post. -/
theorem postContents : Claims.PostContents := by
  intro a q
  refine ⟨maskCount_spanMask a q, fun i => ⟨?_, ?_⟩⟩
  · rw [spanMask_getElem, Bool.and_eq_true, Bool.not_eq_true', decide_eq_true_iff, and_comm]
  · cases kind : a.command.kind with
    | readback => trivial
    | fill | pattern | copy | upload => exact spanValues_carries kind rfl q i

/-- Settles O31: source values, skipped pixels, readiness and what a post carries. -/
theorem sourceValueOfEachPixel : Obligations.SourceValueOfEachPixel :=
  ⟨sourceValues, skippedPixels, spanReadiness, postContents⟩

end Sys2Proof.Machine
end

section
/-! SUPPORT. A command that the engine takes: its start checks, its clipped rectangle and its first span (R84 to R89, R104, R105). -/

namespace Sys2Proof.Machine

open Sys2Proof.Claims

/-! ### The start checks (R84, R85) -/

theorem firstFailure_append {α : Type} (l m : List (Bool × α)) :
    firstFailure (l ++ m) = (firstFailure l).or (firstFailure m) := by
  induction l with
  | nil => rfl
  | cons check rest ih =>
    obtain ⟨fails, code⟩ := check
    cases fails with
    | true => rfl
    | false => exact ih

/-- The checks of a handle answer the code of the first that fails, or else the HELD window that the handle names (R84). -/
theorem checkHandle_cases (s : State) (p : Port) (h : Handle) (right : Rights → Bool) :
    (∃ code, firstFailure (handleChecks s p h right) = some code ∧ s.checkHandle p h right = .error code) ∨
    (∃ w, firstFailure (handleChecks s p h right) = none ∧ (s.slot h.slot).state = .held w ∧
      s.checkHandle p h right = .ok w) := by
  unfold State.checkHandle handleChecks
  cases stale : (s.slot h.slot).generation != h.generation with
  | true => exact .inl ⟨.staleHandle, rfl, rfl⟩
  | false =>
    cases state : (s.slot h.slot).state with
    | free => exact .inl ⟨.notOwner, by simp [firstFailure, Slot.window, state], rfl⟩
    | held w =>
      by_cases owner : w.owner = p
      · cases may : right w.rights <;> simp [firstFailure, Slot.window, Slot.heldWindow, state, owner, may]
      · exact .inl ⟨.notOwner, by simp [firstFailure, Slot.window, state, owner], by simp [owner]⟩
    | draining w _ | revoked w _ =>
      by_cases owner : w.owner = p
      · exact .inl ⟨.windowLost, by simp [firstFailure, Slot.window, Slot.heldWindow, state, owner], by simp [owner]⟩
      · exact .inl ⟨.notOwner, by simp [firstFailure, Slot.window, state, owner], by simp [owner]⟩

theorem leavesWindow_eq (r w : Region) : leavesWindow r w = !regionInside r w := by
  rw [Bool.eq_iff_iff]
  simp only [leavesWindow, regionInside, Bool.or_eq_true, Bool.not_eq_true', Bool.and_eq_false_iff, decide_eq_true_eq,
    decide_eq_false_iff_not]
  omega

/-! ### The clipped rectangle (R86, R87) -/

/-- Whether a clipped rectangle holds the pixel at offset `i`, `j` of the region. -/
def Clip.holds (c : Clip) (i j : Nat) : Prop := c.dx ≤ i ∧ i < c.dx + c.width ∧ c.dy ≤ j ∧ j < c.dy + c.height

theorem regionCovers_iff (r : Region) (x y : Nat) :
    regionCovers r x y = true ↔ (r.x ≤ x ∧ x < r.x + r.width) ∧ r.y ≤ y ∧ y < r.y + r.height := by
  simp only [regionCovers, Bool.and_eq_true, decide_eq_true_eq, and_assoc]

/-- Whether an offset lies in a run of offsets. -/
def inAxis (a : Nat × Nat) (i : Nat) : Prop := a.1 ≤ i ∧ i < a.2

theorem inAxis_clipAxis (start length windowStart windowLength i : Nat) :
    inAxis (clipAxis start length windowStart windowLength) i ↔
      i < length ∧ windowStart ≤ start + i ∧ start + i < windowStart + windowLength := by
  simp only [inAxis, clipAxis]
  omega

theorem inAxis_meetAxis (a b : Nat × Nat) (i : Nat) : inAxis (meetAxis a b) i ↔ inAxis a i ∧ inAxis b i := by
  simp only [inAxis, meetAxis]
  omega

theorem clipOf_holds (h v : Nat × Nat) (i j : Nat) : (clipOf h v).holds i j ↔ inAxis h i ∧ inAxis v j := by
  simp only [Clip.holds, clipOf, inAxis]
  omega

theorem clipToWindow_holds (r w : Region) (i j : Nat) : (clipToWindow r w).holds i j ↔
    i < r.width ∧ j < r.height ∧ regionCovers w (r.x + i) (r.y + j) = true := by
  rw [clipToWindow, clipOf_holds, inAxis_clipAxis, inAxis_clipAxis, regionCovers_iff]
  tauto

theorem clipCopy_holds (r w : Region) (sx sy : Nat) (sw : Region) (i j : Nat) : (clipCopy r w sx sy sw).holds i j ↔
    i < r.width ∧ j < r.height ∧ regionCovers w (r.x + i) (r.y + j) = true ∧ regionCovers sw (sx + i) (sy + j) = true := by
  simp only [clipCopy, clipOf_holds, inAxis_meetAxis, inAxis_clipAxis, regionCovers_iff]
  tauto

theorem clipWhole_holds {r w : Region} (inside : regionInside r w = true) (i j : Nat) : (clipWhole r).holds i j ↔
    i < r.width ∧ j < r.height ∧ regionCovers w (r.x + i) (r.y + j) = true := by
  simp only [regionInside, Bool.and_eq_true, decide_eq_true_eq] at inside
  simp only [Clip.holds, clipWhole, regionCovers_iff]
  omega

/-- An empty clipped rectangle is one that holds no pixel (R86). -/
theorem Clip.isEmpty_iff (c : Clip) : c.isEmpty = true ↔ ∀ i j, ¬ c.holds i j := by
  simp only [Clip.isEmpty, Bool.or_eq_true, beq_iff_eq, Clip.holds]
  refine ⟨fun empty i j => by omega, fun none => ?_⟩
  have corner := none c.dx c.dy
  omega

/-- Where the command's window is HELD and the kind is no COPY, the pixels reached are those of the window (R86). -/
theorem reaches_iff {s : State} {c : DrawCommand} {w : Window} (held : (s.slot c.handle.slot).state = .held w)
    (alone : ∀ rop mask source sx sy key, c.kind ≠ .copy rop mask source sx sy key) (i j : Nat) : Reaches s c i j ↔
      i < c.region.width ∧ j < c.region.height ∧ regionCovers w.region (c.region.x + i) (c.region.y + j) = true := by
  simp [Reaches, Slot.window, held, alone]

/-- Where both windows of a COPY are HELD, a pixel is reached with its source pixel (R87). -/
theorem reaches_copy_iff {s : State} {c : DrawCommand} {rop : BitVec 4} {mask : Pixel} {source : Handle} {sx sy : Nat}
    {key : Option Pixel} (kind : c.kind = .copy rop mask source sx sy key) {w sw : Window}
    (held : (s.slot c.handle.slot).state = .held w) (sourceHeld : (s.slot source.slot).state = .held sw) (i j : Nat) :
    Reaches s c i j ↔ i < c.region.width ∧ j < c.region.height ∧
      regionCovers w.region (c.region.x + i) (c.region.y + j) = true ∧ regionCovers sw.region (sx + i) (sy + j) = true := by
  refine and_congr_right fun _ => and_congr_right fun _ => and_congr ?_ ⟨fun covered => ?_, ?_⟩
  · simp [Slot.window, held]
  · simpa [Slot.window, sourceHeld] using covered _ _ _ _ _ _ kind
  · intro covered rop' mask' source' sx' sy' key' kind'
    rw [kind] at kind'
    cases kind'
    exact ⟨sw, by simp [Slot.window, sourceHeld], covered⟩

/-! ### The order of a command's spans (R89) -/

theorem copyOrder_upward_iff (layer sourceLayer : Layer) (r : Region) (sx sy : Nat) (c : Clip) :
    (copyOrder layer sourceLayer r sx sy c).1 = .upward ↔
      layer = sourceLayer ∧ regionsOverlap (c.at r.x r.y) (c.at sx sy) = true ∧ sy < r.y := by
  unfold copyOrder
  split_ifs with same above
  · exact iff_of_true rfl ⟨same.1, same.2, above⟩
  · exact iff_of_false nofun fun h => above h.2.2
  · exact iff_of_false nofun fun h => above h.2.2
  · exact iff_of_false nofun fun h => same ⟨h.1, h.2.1⟩

theorem copyOrder_leftward_iff (layer sourceLayer : Layer) (r : Region) (sx sy : Nat) (c : Clip) :
    (copyOrder layer sourceLayer r sx sy c).2 = .leftward ↔
      layer = sourceLayer ∧ regionsOverlap (c.at r.x r.y) (c.at sx sy) = true ∧ r.y = sy ∧ sx < r.x := by
  unfold copyOrder
  split_ifs with same above beside
  · exact iff_of_false nofun fun h => by omega
  · exact iff_of_true rfl ⟨same.1, same.2, beside⟩
  · exact iff_of_false nofun fun h => beside h.2.2
  · exact iff_of_false nofun fun h => same ⟨h.1, h.2.1⟩

/-- The layer of a command's source and the order of its spans: those of its windows for a COPY, its own layer and the forward order
for every other kind (R89). -/
def OrderedFor (s : State) (c : DrawCommand) (layer sourceLayer : Layer) (clip : Clip) (order : RowOrder × BlockOrder) : Prop :=
  match c.kind with
  | .copy _ _ source sx sy _ => (∃ sw, (s.slot source.slot).state = .held sw ∧ sourceLayer = sw.layer) ∧
      order = copyOrder layer sourceLayer c.region sx sy clip
  | _ => order = (.downward, .rightward)

/-! ### The command that the checks let start -/

/-- The checks passed, for a HELD window and a clipped rectangle of exactly the pixels that the command reaches. -/
def StartsWith (s : State) (p : Port) (c : DrawCommand) (w : Window) (sourceLayer : Layer) (clip : Clip)
    (order : RowOrder × BlockOrder) : Prop :=
  (s.slot c.handle.slot).state = .held w ∧ s.startChecks p c = .ok (activate p c w.layer sourceLayer clip order) ∧
    (∀ i j, Reaches s c i j ↔ clip.holds i j) ∧ OrderedFor s c w.layer sourceLayer clip order

/-- The start checks that follow those of the command's own handle (R84, R85). -/
def kindChecks (s : State) (p : Port) (c : DrawCommand) : List (Bool × FaultCode) :=
  match c.kind with
  | .copy _ _ source _ _ _ => handleChecks s p source Rights.mayRead
  | .upload _ _ _ | .readback =>
    [((s.slot c.handle.slot).window.any fun w => leavesWindow c.region w.region, .outOfWindow)]
  | _ => []

theorem startList_eq (s : State) (p : Port) (c : DrawCommand) :
    startList s p c = handleChecks s p c.handle c.kind.right ++ kindChecks s p c := by
  unfold startList kindChecks
  cases c.kind <;> rfl

/-- Past the checks of its own handle, a command meets a failing check or starts (R84 to R87). -/
theorem startChecks_of_held {s : State} {p : Port} {c : DrawCommand} {w : Window}
    (held : (s.slot c.handle.slot).state = .held w) (passes : s.checkHandle p c.handle c.kind.right = .ok w) :
    (∃ code, firstFailure (kindChecks s p c) = some code ∧ s.startChecks p c = .error code) ∨
    (firstFailure (kindChecks s p c) = none ∧ ∃ sourceLayer clip order, StartsWith s p c w sourceLayer clip order) := by
  have window : (s.slot c.handle.slot).window = some w := by rw [Slot.window, held]
  unfold StartsWith State.startChecks kindChecks OrderedFor
  rw [passes]
  cases kind : c.kind with
  | fill | pattern =>
    refine .inr ⟨rfl, w.layer, _, _, held, rfl, fun i j => ?_, rfl⟩
    rw [reaches_iff held (by simp [kind]), clipToWindow_holds]
  | copy rop mask source sx sy key =>
    rcases checkHandle_cases s p source Rights.mayRead with ⟨code, first, fails⟩ | ⟨sw, first, sourceHeld, sourcePasses⟩
    · exact .inl ⟨code, first, by simp only [fails]⟩
    · refine .inr ⟨first, sw.layer, clipCopy c.region w.region sx sy sw.region, _, held, by simp only [sourcePasses],
        fun i j => ?_, ⟨sw, sourceHeld, rfl⟩, rfl⟩
      rw [reaches_copy_iff kind held sourceHeld, clipCopy_holds]
  | upload | readback =>
    simp only [window, Option.any_some, leavesWindow_eq, firstFailure]
    cases inside : regionInside c.region w.region with
    | false => exact .inl ⟨_, rfl, rfl⟩
    | true =>
      refine .inr ⟨rfl, w.layer, _, _, held, rfl, fun i j => ?_, rfl⟩
      rw [reaches_iff held (by simp [kind]), clipWhole_holds inside]

/-- The start checks answer the code of the first that fails, or else let the command start (R84 to R87). -/
theorem startChecks_cases (s : State) (p : Port) (c : DrawCommand) :
    (∃ code, firstFailure (startList s p c) = some code ∧ s.startChecks p c = .error code) ∨
    (firstFailure (startList s p c) = none ∧ ∃ w sourceLayer clip order, StartsWith s p c w sourceLayer clip order) := by
  rw [startList_eq, firstFailure_append]
  rcases checkHandle_cases s p c.handle c.kind.right with ⟨code, first, fails⟩ | ⟨w, first, held, passes⟩
  · exact .inl ⟨code, by rw [first, Option.some_or], by rw [State.startChecks, fails]⟩
  · rw [first, Option.none_or]
    exact (startChecks_of_held held passes).imp_right fun ⟨passed, starts⟩ => ⟨passed, w, starts⟩

/-- A command that starts, at its first span (R88, R89, R98). -/
def started (p : Port) (c : DrawCommand) (layer sourceLayer : Layer) (clip : Clip) (order : RowOrder × BlockOrder) :
    ActiveCommand :=
  let a : ActiveCommand := ⟨p, c, layer, sourceLayer, clip, order.1, order.2, none, .empty, none, none, none, false, false, 0⟩
  { a with position := some a.firstPosition }

theorem activate_of_full {clip : Clip} (full : clip.isEmpty = false) (p : Port) (c : DrawCommand) (layer sourceLayer : Layer)
    (order : RowOrder × BlockOrder) :
    activate p c layer sourceLayer clip order = started p c layer sourceLayer clip order := by
  rw [activate, full]
  rfl

theorem started_clip (p : Port) (c : DrawCommand) (layer sourceLayer : Layer) (clip : Clip) (order : RowOrder × BlockOrder) :
    (started p c layer sourceLayer clip order).clip = clip := rfl

/-- The first span has no carry to take (R98). -/
theorem started_beginSpan (p : Port) (c : DrawCommand) (layer sourceLayer : Layer) (clip : Clip)
    (order : RowOrder × BlockOrder) :
    (started p c layer sourceLayer clip order).beginSpan = started p c layer sourceLayer clip order := by
  rw [ActiveCommand.beginSpan]
  split <;> rfl

theorem activate_clip (p : Port) (c : DrawCommand) (layer sourceLayer : Layer) (clip : Clip) (order : RowOrder × BlockOrder) :
    (activate p c layer sourceLayer clip order).clip = clip := by
  unfold activate
  split <;> rfl

/-- Settles O27: the checks in their order, and the command that they let start. -/
theorem startOutcome : Obligations.StartOutcome := by
  intro s p c
  rcases startChecks_cases s p c with ⟨code, first, fails⟩ | ⟨first, w, sourceLayer, clip, order, held, passes, reaches, ordered⟩
  · rw [first]
    simp only [State.startCommand, fails, endFault_eq]
  rw [first]
  have empty : clip.isEmpty = true ↔ ∀ i j, ¬ Reaches s c i j := by simp only [Clip.isEmpty_iff, reaches]
  refine ⟨fun none => ?_, fun ⟨i, j, reached⟩ => ⟨started p c w.layer sourceLayer clip order, ?_, rfl, rfl, ⟨w, held, rfl⟩, reaches,
    rfl, rfl, rfl, rfl, rfl, rfl, rfl, ?_, ?_⟩⟩
  · simp only [State.startCommand, passes, activate_clip, empty.mpr none, if_true, endDone_eq]
  · have full : clip.isEmpty = false := Bool.eq_false_iff.mpr fun none => empty.mp none i j reached
    simp only [State.startCommand, passes, activate_of_full full, started_clip, full, Bool.false_eq_true, if_false,
      started_beginSpan]
    rfl
  · exact congrArg some (firstPosition_eq _)
  · unfold OrderedFor at ordered
    cases kind : c.kind with
    | copy rop mask source sx sy key =>
      simp only [kind] at ordered
      obtain ⟨sourceHeld, rfl⟩ := ordered
      exact ⟨sourceHeld, copyOrder_upward_iff _ _ _ _ _ _, copyOrder_leftward_iff _ _ _ _ _ _⟩
    | fill | pattern | upload | readback =>
      simp only [kind] at ordered
      subst ordered
      exact ⟨rfl, rfl⟩

end Sys2Proof.Machine
end

section
/-! SUPPORT. The events of a span: its post, its reads, and the words of an UPLOAD and a READBACK (R82, R94 to R103, R113 to R119). -/

namespace Sys2Proof.Machine

open Sys2Proof.Claims

/-! ### The span post (R96, R113 to R116) -/

theorem holds_iff (s : State) (h : Handle) : s.holds h = true ↔ Holds s h := by
  unfold State.holds Holds Slot.heldWindow
  cases (s.slot h.slot).state <;> simp

theorem youngest_eq (b : Buffer) (n : BlockName) : b.youngest n = (b.entries.filter fun e => e.block == n).getLast? := by
  rw [Buffer.youngest, List.getLast?_eq_head?_reverse, ← List.filter_reverse, List.head?_filter]

/-- A post merges exactly where the youngest entry for its block is OPEN under its handle (R113, R114). -/
theorem joins_iff (s : State) (h : Handle) (n : BlockName) :
    ((s.buffer.youngest n).any fun e => e.state == .opened && e.handle == h) = true ↔ Joins s h n := by
  simp only [youngest_eq, Joins, Option.any_eq_true, Bool.and_eq_true, beq_iff_eq]

section Post

variable {s : State} {o : SpanPost}

theorem postOutcome_of_lost (lost : ¬ Holds s o.handle) : s.postOutcome o = .lost := by
  rw [State.postOutcome, if_neg (mt (holds_iff s _).mp lost)]

variable (held : Holds s o.handle)
include held

theorem postOutcome_of_joins (joins : Joins s o.handle o.block) : s.postOutcome o = .merged := by
  rw [State.postOutcome, if_pos ((holds_iff s _).mpr held), if_pos ((joins_iff s _ _).mpr joins)]

theorem postOutcome_of_apart (apart : ¬ Joins s o.handle o.block) :
    s.postOutcome o = if 64 ≤ s.buffer.occupancy then .full else .allocated := by
  rw [State.postOutcome, if_pos ((holds_iff s _).mpr held), if_neg (mt (joins_iff s _ _).mp apart)]
  rfl

end Post

theorem ownerOf_held {s : State} {h : Handle} {w : Window} (held : (s.slot h.slot).state = .held w) (default : Port) :
    s.ownerOf h default = w.owner := by
  simp only [State.ownerOf, Slot.window, held]

/-- The span post of a span that is ready (R94 step 4). -/
theorem exec_spanPost {s : State} {a : ActiveCommand} {q : SpanPosition} (running : s.deviceReset = false)
    (current : s.engine.current = some a) (position : a.position = some q) (may : s.engine.mayPost = true)
    (ready : a.postReady q = true) : exec .spanPost s = .next (s.postSpan a q) := by
  have event : exec .spanPost s = .next s.spanPost := congrArg Host.Outcome.next (ownEvent_of_running running _)
  rw [event, State.spanPost]
  simp only [current, position, may, ready, Bool.and_self, if_true]

/-- Settles O32: one case for each outcome of the post. -/
theorem spanPostOutcome : Obligations.SpanPostOutcome := by
  intro s a q running current position may ready h n o
  rw [exec_spanPost running current position may ready, State.postSpan, show a.post q = o from rfl]
  refine ⟨fun lost => ?_, fun held joins => ?_, fun held apart full => ?_, fun held apart room w window => ?_⟩
  · rw [postOutcome_of_lost lost]
    exact congrArg Host.Outcome.next (faultCurrent_eq s a _)
  · rw [postOutcome_of_joins held joins]
    exact ⟨_, rfl, finishWriting_finished _ a q _⟩
  · rw [postOutcome_of_apart held apart, if_pos full]
    rfl
  · rw [postOutcome_of_apart held apart, if_neg (Nat.not_le.mpr room), ← ownerOf_held window a.port]
    exact ⟨_, rfl, finishWriting_finished _ a q _⟩

/-! ### Forwarded reads (R94, R95, R101, R118, R119) -/

/-- The readable entries cover a block exactly when each of its pixels is in one of them (R118). -/
theorem covers_iff (b : Buffer) (n : BlockName) : b.covers n = true ↔
    ∀ i : Fin 16, ∃ e ∈ b.entries, e.block = n ∧ e.state ≠ .voided ∧ e.mask[i] = true := by
  simp only [Buffer.covers, Buffer.readable, List.all_eq_true, List.mem_finRange, true_imp_iff, List.any_eq_true,
    List.mem_filter, Bool.and_eq_true, beq_iff_eq, bne_iff_ne, and_assoc]

/-- The forwarded read of a span that has one to raise. -/
theorem exec_forwardedRead {s : State} {a : ActiveCommand} {q : SpanPosition} {r : NextRead} (running : s.deviceReset = false)
    (current : s.engine.current = some a) (position : a.position = some q) (run : s.engine.state = .run)
    (next : a.nextRead q = some r) : exec .forwardedRead s = .next (s.readSpan a r) := by
  have event : exec .forwardedRead s = .next s.forwardedRead := congrArg Host.Outcome.next (ownEvent_of_running running _)
  rw [event, State.forwardedRead]
  simp only [current, position, next, run, if_true]

theorem readSpan_of_held {s : State} {a : ActiveCommand} {r : NextRead} (held : ∀ h, r.checked = some h → Holds s h) :
    s.readSpan a r = s.raiseRead r.block := by
  unfold State.readSpan
  split
  · next h checked => rw [if_pos ((holds_iff s h).mpr (held h checked))]
  · rfl

theorem readSpan_of_lost {s : State} {a : ActiveCommand} {r : NextRead} {h : Handle} (checked : r.checked = some h)
    (lost : ¬ Holds s h) : s.readSpan a r = s.faultCurrent a .windowLost := by
  rw [State.readSpan, checked]
  exact if_neg (mt (holds_iff s h).mp lost)

/-- Settles the part of O34 on the answer to a read. -/
theorem forwardedReadOutcome : Claims.ForwardedReadOutcome := by
  intro s a q r running current position run next covered
  have deliver (b : Block) : s.engine.deliver b = ⟨.run, some (a.takeBlock q b), false, s.engine.retryPost⟩ := by
    simp only [Engine.deliver, current, position]
  rw [exec_forwardedRead running current position run next]
  refine ⟨fun ⟨h, checked, lost⟩ => ?_, fun held full => ?_, fun held partly => ?_⟩
  · rw [readSpan_of_lost checked lost, faultCurrent_eq]
  · rw [readSpan_of_held held, State.raiseRead, if_pos ((covers_iff _ _).mpr full), ← deliver]
    rfl
  · rw [readSpan_of_held held, State.raiseRead, if_neg (mt (covers_iff _ _).mp partly)]
    rfl

/-- The destination read is raised unchecked, once, where the source is gathered, a pixel is not skipped and D is needed (R94). -/
theorem destRead_eq (a : ActiveCommand) (q : SpanPosition) : a.destRead q =
    if (∃ x ∈ a.spanXs q, a.skipped q x = false) ∧ a.sourceReady q = true ∧ a.command.kind.needsD = true ∧
      a.work.destBlock = none then some ⟨none, ⟨a.layer, q.row, q.column⟩⟩ else none := by
  refine if_congr ?_ rfl rfl
  rw [← allSkipped_eq_false_iff, Bool.and_eq_true, Bool.and_eq_true, Bool.and_eq_true, Bool.not_eq_true',
    Option.isNone_iff_eq_none]
  tauto

/-- Settles the part of O34 on the read that a span raises next. -/
theorem readsOfASpan : Claims.ReadsOfASpan := by
  intro a q
  cases kind : a.command.kind with
  | fill | pattern | upload =>
    simp only [ActiveCommand.nextRead, kind, destRead_eq]
  | readback =>
    simp only [ActiveCommand.nextRead, kind, List.isEmpty_iff]
    rfl
  | copy rop mask source sx sy key =>
    simp only [ActiveCommand.nextRead, kind]
    by_cases more : a.work.sourceBlocks.length < (a.sourceBlockNames q).length
    · rw [dif_pos more, List.getElem?_eq_getElem more]
    · rw [dif_neg more, List.getElem?_eq_none (Nat.le_of_not_lt more), destRead_eq, kind]

/-! ### The pixels of a READBACK (R82, R101, R102) -/

/-- The pixels that a READBACK has read and not yet pushed: its carry and the rest of its span (R101). -/
def ActiveCommand.waiting (a : ActiveCommand) : List Pixel := a.readbackCarry.toList ++ a.work.stream

/-- The finish of a READBACK's span leaves no work for the next one. -/
theorem finishSpan_of_readback {a : ActiveCommand} (readback : a.command.kind = .readback) (q : SpanPosition) :
    a.finishSpan q =
      { a with position := a.nextPosition q, work := .empty, spansCompleted := min 65535 (a.spansCompleted + 1) } := by
  simp only [ActiveCommand.finishSpan, ActiveCommand.beginSpan, readback, DrawKind.isUpload, Bool.false_and,
    Bool.false_eq_true, if_false]

/-- A span of a READBACK is finished once fewer than two pixels wait, and the one left is the carry (R82, R101). -/
theorem settle_eq {a : ActiveCommand} (readback : a.command.kind = .readback) (q : SpanPosition) : a.settle q =
    if a.waiting.length ≤ 1 then
      { a with readbackCarry := a.waiting.head?, position := a.nextPosition q, work := .empty
               spansCompleted := min 65535 (a.spansCompleted + 1) }
    else a := by
  unfold ActiveCommand.settle ActiveCommand.waiting
  cases carry : a.readbackCarry with
  | none =>
    match stream : a.work.stream with
    | [] => rw [finishSpan_of_readback readback, carry]; rfl
    | [v] => exact finishSpan_of_readback (a := { a with readbackCarry := some v }) readback q
    | _ :: _ :: _ => simp
  | some v =>
    match stream : a.work.stream with
    | [] => rw [finishSpan_of_readback readback, carry]; rfl
    | _ :: _ => simp

/-- With the pixels of a span read, one that meets no carry finishes it (R82, R101). -/
theorem settle_of_read {a : ActiveCommand} (readback : a.command.kind = .readback) (q : SpanPosition) {pixels : List Pixel}
    (full : pixels ≠ []) : ActiveCommand.settle { a with work := { a.work with stream := pixels } } q =
      if a.readbackCarry = none ∧ pixels.length = 1 then
        { a with readbackCarry := pixels.head?, position := a.nextPosition q, work := .empty
                 spansCompleted := min 65535 (a.spansCompleted + 1) }
      else { a with work := { a.work with stream := pixels } } := by
  obtain ⟨first, rest, rfl⟩ := List.exists_cons_of_ne_nil full
  refine (settle_eq (a := { a with work := { a.work with stream := first :: rest } }) readback q).trans ?_
  unfold ActiveCommand.waiting
  cases carry : a.readbackCarry with
  | none => exact if_congr (by simp) rfl rfl
  | some v => simp

/-- Settles the part of O34 on the block delivered. -/
theorem deliveredBlock : Claims.DeliveredBlock := by
  intro a q b
  cases kind : a.command.kind with
  | fill | pattern | upload => simp only [ActiveCommand.takeBlock, kind]
  | copy => simp only [ActiveCommand.takeBlock, kind]
  | readback =>
    intro full
    refine ⟨(a.spanXs q).map fun x => blockPixel b (x - 16 * q.column), List.length_map _, fun k x inside => ?_, ?_⟩
    · have column := (mem_spanXs.mp (List.mem_of_getElem? inside)).2
      have position : x % 16 = x - 16 * q.column := by omega
      rw [List.getElem?_map, inside, position, getElem?_eq_blockPixel b (by omega), Option.map_some]
    · simp only [ActiveCommand.takeBlock, kind]
      exact settle_of_read kind q (by simpa using full)

/-- Settles O34: the read raised next, its answer and the block delivered. -/
theorem forwardedReads : Obligations.ForwardedReads := ⟨forwardedReadOutcome, readsOfASpan, deliveredBlock⟩

/-- While pixels of the span are left, the next word takes the first two that wait (R101). -/
theorem nextWord_of_span {a : ActiveCommand} {q : SpanPosition} (position : a.position = some q)
    {x y : Pixel} {rest : List Pixel} (waiting : a.waiting = x :: y :: rest) : a.nextWord =
      some (y ++ x, ActiveCommand.settle { a with readbackCarry := none, work := { a.work with stream := rest } } q) := by
  unfold ActiveCommand.waiting at waiting
  cases carry : a.readbackCarry with
  | none =>
    have stream : a.work.stream = x :: y :: rest := by simpa [carry] using waiting
    simp only [ActiveCommand.nextWord, position, carry, stream, readbackWord]
  | some v =>
    obtain ⟨rfl, stream⟩ : v = x ∧ a.work.stream = y :: rest := by simpa [carry] using waiting
    simp only [ActiveCommand.nextWord, position, carry, stream, readbackWord]

/-- With a word of two pixels pushed, fewer than two left finish the span (R82, R101). -/
theorem settle_of_pushed {a : ActiveCommand} (readback : a.command.kind = .readback) (q : SpanPosition) (rest : List Pixel) :
    ActiveCommand.settle { a with readbackCarry := none, work := { a.work with stream := rest } } q =
      if rest.length ≤ 1 then
        { a with readbackCarry := rest.head?, position := a.nextPosition q, work := .empty
                 spansCompleted := min 65535 (a.spansCompleted + 1) }
      else { a with readbackCarry := none, work := { a.work with stream := rest } } :=
  settle_eq (a := { a with readbackCarry := none, work := { a.work with stream := rest } }) readback q

/-- Settles the part of O37 on the words. -/
theorem readbackWords : Claims.ReadbackWords := by
  intro a readback
  refine ⟨fun q x y rest position left waiting => ⟨_, nextWord_of_span position waiting, ?_⟩, fun v position carry => ?_,
    fun position carry => ?_⟩
  · rw [settle_of_pushed readback]
    by_cases few : rest.length ≤ 1
    · simp only [if_pos few, and_self]
    · simp only [if_neg few, position, and_self, true_and]
      rw [← position]
  · simp only [ActiveCommand.nextWord, position, carry]
    rfl
  · simp only [ActiveCommand.nextWord, position, carry]

/-! ### The pushes of a READBACK (R101, R102, R103) -/

/-- Settles the part of O37 on the pushes. -/
theorem readbackPushOutcome : Claims.ReadbackPushOutcome := by
  intro s a b w running current readback state next last
  have event : exec .readbackPush s = .next (s.pushReadback a b w) := by
    refine congrArg Host.Outcome.next ((ownEvent_of_running running _).trans ?_)
    have waits : (s.engine.state == .run || s.engine.state == .waitRoom) = true := by
      simpa only [Bool.or_eq_true, beq_iff_eq] using state
    simp only [State.readbackPush, current, next, readback, DrawKind.isReadback, waits, Bool.and_self, if_true]
  have pushed : a.wordsPushed b = true ↔ last := by
    simp only [ActiveCommand.wordsPushed, Bool.or_eq_true, Option.isNone_iff_eq_none, List.isEmpty_iff, last]
  rw [event, State.pushReadback, fifoCapacity]
  refine ⟨fun room => ?_, fun full => ?_⟩
  · rw [if_pos room]
    by_cases ends : last
    · simp only [pushed.mpr ends, if_true, if_pos ends]
      rfl
    · simp only [mt pushed.mp ends, if_neg ends]
      rfl
  · rw [if_neg (Nat.not_lt.mpr full)]
    split <;> rfl

/-- Settles O37: the words formed and their pushes. -/
theorem readbackPushes : Obligations.ReadbackPushes := ⟨readbackWords, readbackPushOutcome⟩

/-! ### The pops of an UPLOAD (R98, R99, R103) -/

/-- The pixels that the span at `q` of an UPLOAD still needs (R98). -/
def ActiveCommand.need (a : ActiveCommand) (q : SpanPosition) : Nat := a.spanLength q - a.work.gathered.length

/-- A popped word's pixels join the span as far as it needs them, and one beyond becomes the carry (R98). -/
theorem takeWord_eq {a : ActiveCommand} {q : SpanPosition} (short : a.work.gathered.length < a.spanLength q) (w : Word) :
    a.takeWord q w =
      { a with
        work := { a.work with gathered := a.work.gathered ++
          ([w.extractLsb' 0 16, w.extractLsb' 16 16] : List Pixel).take (a.need q) }
        uploadCarry := if a.need q = 1 then some (w.extractLsb' 16 16) else a.uploadCarry } := by
  unfold ActiveCommand.takeWord
  split
  · next both =>
    have two : 2 ≤ a.need q := by unfold ActiveCommand.need; omega
    rw [List.take_of_length_le (by simpa using two), if_neg (by omega)]
    rfl
  · next alone =>
    have one : a.need q = 1 := by unfold ActiveCommand.need; omega
    rw [one]
    rfl

/-- The word gathers the span exactly when it needs no more than two pixels. -/
theorem takeWord_gathers {a : ActiveCommand} {q : SpanPosition} (short : a.work.gathered.length < a.spanLength q) (w : Word) :
    (a.takeWord q w).spanLength q ≤ (a.takeWord q w).work.gathered.length ↔ a.need q ≤ 2 := by
  have same : (a.takeWord q w).spanLength q = a.spanLength q := by rw [takeWord_eq short]; rfl
  rw [same, takeWord_eq short]
  simp only [List.length_append, List.length_take, List.length_cons, List.length_nil, ActiveCommand.need]
  omega

/-- The upload pop of an UPLOAD whose span is not yet gathered. -/
theorem exec_uploadPop {s : State} {a : ActiveCommand} {q : SpanPosition} (running : s.deviceReset = false)
    (current : s.engine.current = some a) (position : a.position = some q) (upload : a.command.kind.isUpload = true)
    (short : a.work.gathered.length < a.spanLength q) (state : s.engine.state = .run ∨ s.engine.state = .waitData) :
    exec .uploadPop s = .next (s.popUpload a q) := by
  refine congrArg Host.Outcome.next ((ownEvent_of_running running _).trans ?_)
  have pops : (s.engine.state == .run || s.engine.state == .waitData) = true := by
    simpa only [Bool.or_eq_true, beq_iff_eq] using state
  have gathering : a.sourceReady q = false := by
    unfold DrawKind.isUpload at upload
    split at upload
    · next kind => simpa only [ActiveCommand.sourceReady, kind, decide_eq_false_iff_not, Nat.not_le] using short
    · cases upload
  simp only [State.uploadPop, current, position, upload, gathering, pops, Bool.not_false, Bool.and_self, if_true]

/-- Settles O36: an empty FIFO begins the wait, and a word may end it. -/
theorem uploadPopOutcome : Obligations.UploadPopOutcome := by
  intro s a q running current position upload short state need
  rw [exec_uploadPop running current position upload short state]
  refine ⟨fun empty => ?_, fun w rest words => ?_⟩
  · simp only [State.popUpload, empty]
    split <;> rfl
  · have needed : need = a.need q := rfl
    simp only [State.popUpload, words, takeWord_gathers short, needed]
    by_cases gathered : a.need q ≤ 2
    · simp only [if_pos gathered, takeWord_eq short]
      rfl
    · simp only [if_neg gathered, takeWord_eq short]
      rfl

end Sys2Proof.Machine
end

section
/-! SUPPORT. The host's pushes and pops of the pixel FIFOs (R103, R168, R169). -/

namespace Sys2Proof.Machine

open Sys2Proof.Claims

/-- The restart of the data timer and a change of a port's unit reach different parts of the state. -/
theorem restartDataTimer_onPort (s : State) (p : Port) (f : HostPort → HostPort) (waiting : EngineState) :
    (s.onPort p f).restartDataTimer p waiting = (s.restartDataTimer p waiting).onPort p f := by
  unfold State.restartDataTimer
  rw [State.onPort_engine]
  split <;> rfl

/-- An engine that waits for the port has its data timer restarted, and any other is as it was (R103). -/
theorem restartDataTimer_restarted (s : State) (p : Port) (waiting : EngineState) :
    TimerRestarted s (s.restartDataTimer p waiting) p waiting := by
  unfold State.restartDataTimer
  refine ⟨fun a waits current own => ?_, fun other => ?_⟩
  · rw [if_pos waits]
    simp only [State.onCurrent, State.onEngine, current, Option.map_some, if_pos own]
    rfl
  · split
    · next waits =>
      have others : ∀ a, s.engine.current = some a → a.port ≠ p := other.resolve_left fun ne => ne waits
      have same : (s.engine.current.map fun a => if a.port = p then { a with dataTimer := some s.dataTimeout } else a) =
          s.engine.current := by
        cases current : s.engine.current with
        | none => rfl
        | some a => rw [Option.map_some, if_neg (others a current)]
      exact congrArg (fun c => { s.engine with current := c }) same
    · rfl

/-- Beside a change of a port's unit it changes nothing but the engine. -/
theorem restartDataTimer_rest (s : State) (p : Port) (waiting : EngineState) (f : HostPort → HostPort) :
    { (s.restartDataTimer p waiting).onPort p f with engine := s.engine } = s.onPort p f := by
  unfold State.restartDataTimer
  split <;> rfl

theorem exec_uploadPush {s : State} {p : Port} (taken : s.takes p) (w : Word) :
    exec (.uploadPush p w) s = .next (s.pushUpload p w) := congrArg Host.Outcome.next (writeAccess_of_takes taken _)

theorem readAccess_of_takes {s : State} {p : Port} (taken : s.takes p) (w : Word) (f : State → State) :
    readAccess s p w f = (f s).onPort p fun hp => { hp with readData := w } := by
  simp [readAccess, ignoresAccess_of_takes taken]

/-- A taken pop returns the oldest word of the FIFO, 0 where it is empty (R169). -/
theorem exec_readbackPop {s : State} {p : Port} (taken : s.takes p) : exec (.readbackPop p) s =
    .next ((s.popReadback p).onPort p fun hp => { hp with readData := (s.ports.get p).readback.headD 0 }) :=
  congrArg Host.Outcome.next (readAccess_of_takes taken _ _)

/-- Settles O49: one update of the port's unit, and the restart of the timer. -/
theorem pixelFifoAccesses : Obligations.PixelFifoAccesses := by
  intro p w s taken
  rw [exec_uploadPush taken, exec_readbackPop taken]
  refine ⟨fun room => ⟨_, rfl, ?_⟩, fun full => ?_, fun v rest words => ⟨_, rfl, ?_⟩, fun empty => ?_⟩
  · rw [State.pushUpload, fifoCapacity, if_pos room, restartDataTimer_onPort]
    exact ⟨restartDataTimer_restarted s p .waitData, restartDataTimer_rest s p .waitData _⟩
  · rw [State.pushUpload, fifoCapacity, if_neg (Nat.not_lt.mpr full)]
    rfl
  · simp only [State.popReadback, words, restartDataTimer_onPort, State.onPort_onPort, List.headD_cons]
    exact ⟨restartDataTimer_restarted s p .waitRoom, restartDataTimer_rest s p .waitRoom _⟩
  · simp only [State.popReadback, empty, State.setAccessError, State.onPort_onPort, List.headD_nil]

end Sys2Proof.Machine
end

section
/-! SUPPORT. An entry at its place in the age order: what finding, changing and removing the oldest or the youngest entry of a
kind does there, and with that the posts and the block that a forwarded read delivers (R112, R114, R115, R118, R119). -/

namespace Sys2Proof.Machine

/-! ### The oldest and the youngest entry of a kind -/

section Places

variable {q : Entry → Bool} {items old young : List AgeItem} {e : Entry}

/-- The oldest entry of a kind is found, removed and changed where no older one is of the kind. -/
theorem oldest_at (hit : q e = true) (before : ∀ v ∈ old.filterMap AgeItem.entry?, q v = false) :
    ((old ++ .entry e :: young).filterMap AgeItem.entry?).find? q = some e ∧
      removeOldest q (old ++ .entry e :: young) = old ++ young ∧
      ∀ f, changeOldest q f (old ++ .entry e :: young) = old ++ .entry (f e) :: young := by
  induction old with
  | nil => simp [removeOldest, changeOldest, hit]
  | cons it rest ih =>
    cases it with
    | entry v =>
      rw [entries_entry] at before
      obtain ⟨other, before⟩ := List.forall_mem_cons.mp before
      obtain ⟨found, removed, changed⟩ := ih before
      refine ⟨?_, ?_, fun f => ?_⟩
      · rw [List.cons_append, entries_entry, List.find?_cons_of_neg (by simp [other]), found]
      · simp [removeOldest, other, removed]
      · simp [changeOldest, other, changed]
    | marker m =>
      obtain ⟨found, removed, changed⟩ := ih before
      exact ⟨found, congrArg (AgeItem.marker m :: ·) removed, fun f => congrArg (AgeItem.marker m :: ·) (changed f)⟩

/-- The youngest entry of a kind is changed where no younger one is of the kind. -/
theorem changeYoungest_at (hit : q e = true) (after : ∀ v ∈ young.filterMap AgeItem.entry?, q v = false)
    (f : Entry → Entry) : changeYoungest q f (old ++ .entry e :: young) = old ++ .entry (f e) :: young := by
  obtain ⟨-, -, changed⟩ := oldest_at (old := young.reverse) (young := old.reverse) hit
    fun v m => after v (by rwa [List.filterMap_reverse, List.mem_reverse] at m)
  have reversed : (old ++ AgeItem.entry e :: young).reverse = young.reverse ++ .entry e :: old.reverse := by simp
  rw [changeYoungest, reversed, changed]
  simp

theorem changeYoungest_of_none (none : ∀ v ∈ items.filterMap AgeItem.entry?, q v = false) (f : Entry → Entry) :
    changeYoungest q f items = items := by
  have missing : (items.reverse.filterMap AgeItem.entry?).find? q = .none := by
    rw [List.find?_eq_none]
    intro v m
    rw [List.filterMap_reverse, List.mem_reverse] at m
    simp [none v m]
  rw [changeYoungest, changeOldest_of_none missing, List.reverse_reverse]

/-- No entry is of a kind, or there is a youngest one. -/
theorem youngest_cases (q : Entry → Bool) (items : List AgeItem) : (∀ v ∈ items.filterMap AgeItem.entry?, q v = false) ∨
    ∃ old e young, items = old ++ .entry e :: young ∧ q e = true ∧ ∀ v ∈ young.filterMap AgeItem.entry?, q v = false := by
  induction items with
  | nil => exact .inl fun v m => by cases m
  | cons it rest ih =>
    rcases ih with none | ⟨old, e, young, rfl, hit, after⟩
    · cases it with
      | entry e =>
        cases hit : q e with
        | true => exact .inr ⟨[], e, rest, rfl, hit, none⟩
        | false => exact .inl (List.forall_mem_cons.mpr ⟨hit, none⟩)
      | marker m => exact .inl none
    · exact .inr ⟨it :: old, e, young, rfl, hit, after⟩

end Places

/-! ### Posts (R114, R115) -/

/-- The entries of other blocks are not of the kind that a post looks for. -/
theorem beq_block_eq_false {es : List Entry} {n : BlockName} (others : ∀ v ∈ es, v.block ≠ n) :
    ∀ v ∈ es, (v.block == n) = false := fun v m => beq_false_of_ne (others v m)

/-- A merge changes the contents of the entry alone, pixel by pixel (R114). -/
theorem merge_contents (o : SpanPost) (e : Entry) : { e.merge o with mask := e.mask, data := e.data } = e ∧
    ∀ i : Fin 16, (e.merge o).mask[i] = (e.mask[i] || o.mask[i]) ∧
      (e.merge o).data[i] = if o.mask[i] then o.values[i] else e.data[i] :=
  ⟨by simp only [Entry.merge], fun i => by simp [Entry.merge]⟩

theorem mergeAndAllocationOverAnEntry : Claims.MergeAndAllocationOverAnEntry := by
  intro s o owner old young e items block others
  have changed := changeYoungest_at (q := fun v => v.block == o.block) (old := old) (beq_iff_eq.mpr block)
    (beq_block_eq_false others)
  refine ⟨⟨e.merge o, ?_, merge_contents o e⟩, ?_⟩
  · rw [State.mergePost, State.onBuffer, items, changed]
  · rw [State.allocatePost, State.onBuffer, items, changed]
    rfl

theorem firstAllocation : Claims.FirstAllocation := by
  intro s o owner others
  have same := changeYoungest_of_none (items := s.buffer.items) (beq_block_eq_false others) Entry.close
  simp only [State.allocatePost, State.onBuffer, same]

/-- Settles O33: the youngest entry for the block is changed at its place, and where there is none no entry is. -/
theorem mergeAndAllocation : Obligations.MergeAndAllocation := ⟨mergeAndAllocationOverAnEntry, firstAllocation⟩

/-! ### The block of a forwarded read (R118, R119) -/

/-- Entries laid over a block one after the other leave each pixel as the last of them that holds it. -/
theorem foldl_layEntry_getElem (es : List Entry) (base : Block) (i : Fin 16) : (es.foldl layEntry base)[i] =
    match (es.filter fun e => e.mask[i]).getLast? with
    | some e => e.data[i]
    | none => base[i] := by
  induction es using List.reverseRecOn with
  | nil => rfl
  | append_singleton es e ih =>
    by_cases holds : e.mask[i.val] = true
    · simp [layEntry, holds]
    · have above : ((es ++ [e]).foldl layEntry base)[i] = (es.foldl layEntry base)[i] := by simp [layEntry, holds]
      have same : ((es ++ [e]).filter fun e => e.mask[i]) = es.filter fun e => e.mask[i] := by simp [holds]
      rw [above, same, ih]

/-- Settles O35: the readable entries are laid over the block from the oldest to the youngest. -/
theorem overlayTakesTheYoungest : Obligations.OverlayTakesTheYoungest := by
  intro b n base i
  have holders : (b.entries.filter fun e => e.block == n && e.state != .voided && e.mask[i]) =
      (b.readable n).filter fun e => e.mask[i] := by
    rw [Buffer.readable, List.filter_filter]
    exact List.filter_congr fun e _ => Bool.and_comm _ _
  rw [holders]
  exact foldl_layEntry_getElem (b.readable n) base i

end Sys2Proof.Machine
end

section
/-! SUPPORT. The law of the Pending-Write Buffer, kept by every step: every event but a span post only takes entries away or
changes them where they stand, for their blocks still and none to OPEN, and an allocation closes the youngest entry for its block
(R112, R115). -/

namespace Sys2Proof.Machine

/-! ### Entries that stand in the places of others -/

/-- An entry that may stand in another one's place: for the same block, and OPEN only where the other is. -/
def Entry.Succeeds (e' e : Entry) : Prop := e'.block = e.block ∧ (e'.state = .opened → e.state = .opened)

theorem Entry.Succeeds.refl (e : Entry) : e.Succeeds e := ⟨rfl, id⟩

/-- Some of the entries changed where they stand. -/
theorem succeeds_map {f : Entry → Entry} (hf : ∀ e, (f e).Succeeds e) {kept es : List Entry} (sublist : kept.Sublist es) :
    (kept.map f).SublistForall₂ Entry.Succeeds es := by
  rw [List.sublistForall₂_iff]
  exact ⟨kept, List.forall₂_map_left_iff.mpr (List.forall₂_same.mpr fun e _ => hf e), sublist⟩

theorem succeeds_sublist {kept es : List Entry} (sublist : kept.Sublist es) : kept.SublistForall₂ Entry.Succeeds es := by
  simpa using succeeds_map (f := id) Entry.Succeeds.refl sublist

theorem succeeds_trans {es fs gs : List Entry} (a : fs.SublistForall₂ Entry.Succeeds es)
    (b : gs.SublistForall₂ Entry.Succeeds fs) : gs.SublistForall₂ Entry.Succeeds es :=
  haveI : IsTrans Entry Entry.Succeeds := ⟨fun _ _ _ ⟨block, opened⟩ ⟨block', opened'⟩ =>
    ⟨block.trans block', opened' ∘ opened⟩⟩
  IsTrans.trans _ _ _ b a

/-- One entry of the age order changed at its place. -/
theorem succeeds_at {e' e : Entry} (h : e'.Succeeds e) (old young : List AgeItem) :
    ((old ++ .entry e' :: young).filterMap AgeItem.entry?).SublistForall₂ Entry.Succeeds
      ((old ++ .entry e :: young).filterMap AgeItem.entry?) := by
  induction old with
  | nil => exact .cons h (succeeds_sublist (List.Sublist.refl _))
  | cons it rest ih =>
    cases it with
    | entry v => exact .cons (Entry.Succeeds.refl v) ih
    | marker m => exact ih

theorem succeeds_changeOldest (q : Entry → Bool) {f : Entry → Entry} (hf : ∀ e, (f e).Succeeds e) (items : List AgeItem) :
    ((changeOldest q f items).filterMap AgeItem.entry?).SublistForall₂ Entry.Succeeds (items.filterMap AgeItem.entry?) := by
  cases found : (items.filterMap AgeItem.entry?).find? q with
  | none => rw [changeOldest_of_none found]; exact succeeds_sublist (List.Sublist.refl _)
  | some e =>
    obtain ⟨old, young, rfl, -, changed⟩ := found_split found
    rw [changed]
    exact succeeds_at (hf e) old young

theorem succeeds_changeYoungest (q : Entry → Bool) {f : Entry → Entry} (hf : ∀ e, (f e).Succeeds e) (items : List AgeItem) :
    ((changeYoungest q f items).filterMap AgeItem.entry?).SublistForall₂ Entry.Succeeds (items.filterMap AgeItem.entry?) := by
  rcases youngest_cases q items with none | ⟨old, e, young, rfl, hit, after⟩
  · rw [changeYoungest_of_none none]; exact succeeds_sublist (List.Sublist.refl _)
  · rw [changeYoungest_at hit after]; exact succeeds_at (hf e) old young

theorem succeeds_voidFilling (h : Handle) (e : Entry) : (e.voidFilling h).Succeeds e := by
  unfold Entry.voidFilling
  split
  · exact ⟨rfl, fun opened => by cases opened⟩
  · exact .refl e

theorem succeeds_drainBegin (e : Entry) : e.drainBegin.Succeeds e := by
  unfold Entry.drainBegin
  split <;> exact ⟨rfl, fun opened => by cases opened⟩

theorem succeeds_underfilled (memory : Block) (e : Entry) : (e.underfilled memory).Succeeds e :=
  ⟨rfl, fun opened => by cases opened⟩

theorem succeeds_merge (o : SpanPost) (e : Entry) : (e.merge o).Succeeds e := by
  simp [Entry.Succeeds, Entry.merge]

theorem succeeds_close (e : Entry) : e.close.Succeeds e := by
  unfold Entry.close
  split
  · exact ⟨rfl, fun opened => by cases opened⟩
  · exact .refl e

/-! ### The law over a list of entries -/

/-- An OPEN entry is the youngest for its block: the relation of an older entry to a younger one (R112). -/
def Entry.Precedes (older younger : Entry) : Prop := older.block = younger.block → older.state ≠ .opened

/-- The law of the buffer over its entries: their number, and which of them may be OPEN (R112). -/
structure OpenOrder (es : List Entry) : Prop where
  capacity : es.length ≤ 64
  youngest : es.Pairwise Entry.Precedes

theorem Entry.Precedes.succeeds {a b a' b' : Entry} (h : a.Precedes b) (ha : a'.Succeeds a) (hb : b'.Succeeds b) :
    a'.Precedes b' := fun block opened => h (ha.1.symm.trans (block.trans hb.1)) (ha.2 opened)

theorem exists_succeeded {es' es : List Entry} (h : es'.SublistForall₂ Entry.Succeeds es) :
    ∀ e' ∈ es', ∃ e ∈ es, e'.Succeeds e := by
  induction h with
  | nil => exact fun e' m => by cases m
  | @cons a' a _ es succeeds _ ih =>
    refine List.forall_mem_cons.mpr ⟨⟨a, List.mem_cons_self, succeeds⟩, fun e' m => ?_⟩
    obtain ⟨e, m, follows⟩ := ih e' m
    exact ⟨e, List.mem_cons_of_mem a m, follows⟩
  | @cons_right a _ es _ ih =>
    intro e' m
    obtain ⟨e, m, follows⟩ := ih e' m
    exact ⟨e, List.mem_cons_of_mem a m, follows⟩

theorem pairwise_succeeds {es' es : List Entry} (h : es'.SublistForall₂ Entry.Succeeds es) (law : es.Pairwise Entry.Precedes) :
    es'.Pairwise Entry.Precedes := by
  induction h with
  | nil => exact .nil
  | cons succeeds rest ih =>
    obtain ⟨first, law⟩ := List.pairwise_cons.mp law
    refine List.pairwise_cons.mpr ⟨fun b' m => ?_, ih law⟩
    obtain ⟨b, mb, follows⟩ := exists_succeeded rest b' m
    exact (first b mb).succeeds succeeds follows
  | cons_right _ ih => exact ih (List.pairwise_cons.mp law).2

/-- Entries that go, or are changed where they stand, leave the law. -/
theorem OpenOrder.succeeds {es es' : List Entry} (law : OpenOrder es) (h : es'.SublistForall₂ Entry.Succeeds es) :
    OpenOrder es' := by
  obtain ⟨kept, each, sublist⟩ := List.sublistForall₂_iff.mp h
  exact ⟨each.length_eq.trans_le (sublist.length_le.trans law.capacity), pairwise_succeeds h law.youngest⟩

/-- With the youngest entry for a block closed, none for the block is OPEN (R112, R115). -/
theorem not_opened_of_close {items : List AgeItem} (law : (items.filterMap AgeItem.entry?).Pairwise Entry.Precedes)
    (n : BlockName) {e : Entry}
    (m : e ∈ (changeYoungest (fun e => e.block == n) Entry.close items).filterMap AgeItem.entry?) (block : e.block = n) :
    e.state ≠ .opened := by
  rcases youngest_cases (fun e => e.block == n) items with none | ⟨old, last, young, rfl, hit, after⟩
  · rw [changeYoungest_of_none none] at m
    exact absurd block (ne_of_beq_false (none e m))
  · rw [changeYoungest_at hit after, List.filterMap_append, entries_entry, List.mem_append, List.mem_cons] at m
    rw [List.filterMap_append, entries_entry, List.pairwise_append] at law
    obtain ⟨-, -, precedes⟩ := law
    rcases m with older | rfl | younger
    · exact precedes e older last List.mem_cons_self (block.trans (beq_iff_eq.mp hit).symm)
    · unfold Entry.close
      split
      · exact fun opened => by cases opened
      · assumption
    · exact absurd block (ne_of_beq_false (after e younger))

/-! ### Every event but a span post -/

/-- The entries of `t` are some of the entries of `s` in their order, each for its block still and none newly OPEN. -/
def Thins (s t : State) : Prop := t.buffer.entries.SublistForall₂ Entry.Succeeds s.buffer.entries

theorem Thins.of_entries {s t : State} (h : t.buffer.entries = s.buffer.entries) : Thins s t :=
  succeeds_sublist (h ▸ List.Sublist.refl _)

theorem Thins.refl (s : State) : Thins s s := .of_entries rfl

theorem Thins.trans {s t u : State} (a : Thins s t) (b : Thins t u) : Thins s u := succeeds_trans a b

theorem TableFrame.thins {s t : State} (h : TableFrame s t) : Thins s t :=
  .of_entries (congrArg (List.filterMap AgeItem.entry?) h.items)

/-! ### The Lease Manager (R24, R41, R54, R127) -/

theorem revoke_thins (s : State) (i : SlotNo) (preemptor : Option Port) : Thins s (s.revoke i preemptor) := by
  have revoked {w : Window} {passed : Bool} (revocable : (s.slot i).revocable w passed) :
      Thins s (s.revoke i preemptor) := by
    have entries : (s.revoke i preemptor).buffer.entries =
        (s.buffer.entries.filter fun e => !e.leavesAtRevocation (s.handle i)).map (Entry.voidFilling (s.handle i)) := by
      unfold Buffer.entries
      rw [(revoke_spec revocable preemptor).items, ← voidItems_entries_eq]
      split
      · rfl
      · exact withoutCompleting_entries _ _
    unfold Thins
    rw [entries]
    exact succeeds_map (succeeds_voidFilling _) List.filter_sublist
  cases state : (s.slot i).state with
  | held w => exact revoked (.inl ⟨state, rfl⟩)
  | draining w passed => exact revoked (.inr state)
  | free | revoked => rw [State.revoke, state]; exact .refl s

theorem revokeAll_thins (s : State) (l : List SlotNo) (preemptor : Option Port) : Thins s (s.revokeAll l preemptor) := by
  unfold State.revokeAll
  induction l generalizing s with
  | nil => exact .refl s
  | cons i l ih => exact (revoke_thins s i preemptor).trans (ih _)

theorem evaluateOne_thins (s : State) (p : Port) : Thins s (s.evaluateOne p).1 := by
  rcases evaluateOne_cases s p with same | ⟨w, i, -, -, granted⟩
  · rw [same]; exact .refl s
  · have revoked : Thins s (s.preempted p w.request) := revokeAll_thins s _ _
    rw [granted]
    generalize s.preempted p w.request = t at revoked
    exact revoked.trans (.of_entries rfl)

theorem evaluateWaitList_thins (s : State) : Thins s s.evaluateWaitList :=
  evaluateWaitList_keeps (P := Thins s) (fun t p k => k.trans (evaluateOne_thins t p)) (.refl s)

theorem request_thins (s : State) (p : Port) : Thins s (s.request p) := by
  rcases request_cases s p with ⟨result, refused⟩ | ⟨r, run, idle, staged, quota, parks | decided⟩
  · rw [refused]; exact .of_entries rfl
  · rw [parks]; exact .of_entries rfl
  · obtain ⟨i, -, -, granted⟩ := request_granted run idle staged quota decided
    have held : Thins s (((s.preempted p r).onSlot i (Slot.grant p r)).record p .request .granted
        (some ⟨i, ((s.preempted p r).slot i).generation + 1⟩)) :=
      (revokeAll_thins s _ _).trans (.of_entries rfl)
    rw [granted]
    simp only []
    split
    · exact held
    · exact held.trans (evaluateWaitList_thins _)

theorem release_thins (s : State) (p : Port) (n : Handle) : Thins s (s.release p n) := by
  unfold State.release
  split <;> exact .of_entries rfl

theorem setVisible_thins (s : State) (p : Port) (n : Handle) (v : Bool) : Thins s (s.setVisible p n v) := by
  unfold State.setVisible
  split
  · exact .of_entries rfl
  · split <;> exact .of_entries rfl

theorem cancel_thins (s : State) (p : Port) : Thins s (s.cancel p) := by
  unfold State.cancel
  split
  · exact .of_entries rfl
  · split <;> exact .of_entries rfl

theorem timeoutLease_thins (s : State) (p : Port) : Thins s (s.timeoutLease p) := by
  unfold State.timeoutLease
  split <;> exact .of_entries rfl

theorem leaseOp_thins (s : State) (p : Port) (o : LeaseOpWord) : Thins s (s.leaseOp p o) := by
  unfold State.leaseOp
  split
  · exact request_thins s p
  · split
    · exact release_thins s p _
    · split
      · exact setVisible_thins s p _ _
      · exact cancel_thins s p

/-! ### Detach, the frame start and the fence take (R25, R34, R77, R134) -/

theorem detach_thins (s : State) (p : Port) : Thins s (s.detach p) := by
  have withdrawn : Thins s (s.withdrawn p) := .of_entries (dropMarkers_entries p s.buffer.items)
  have revoked : Thins s (s.dispossessed p) := withdrawn.trans (revokeAll_thins _ _ _)
  have after : TableFrame (s.dispossessed p) (s.detached p) := by
    unfold State.detached
    generalize s.dispossessed p = t
    exact ⟨⟨rfl, rfl, rfl, rfl⟩, rfl⟩
  have detached : Thins s (s.detached p) := revoked.trans after.thins
  rw [detach_eq]
  split
  · exact detached.trans (evaluateWaitList_thins _)
  · exact detached

/-- The freeing checks of a frame start leave the buffer (R29, R34). -/
theorem freeingChecks_buffer (s : State) : (allSlots.foldl State.freeingCheck s.framePassed).buffer = s.buffer := by
  obtain ⟨-, -, rest⟩ := freeingChecks_spec allSlots_nodup s.framePassed
  obtain ⟨table, same⟩ : ∃ table, s.framePassed = { s with table := table } := ⟨_, rfl⟩
  generalize allSlots.foldl State.freeingCheck s.framePassed = u at rest ⊢
  rw [same] at rest
  exact (congrArg State.buffer rest :)

theorem passFrame_thins (s : State) : Thins s s.passFrame := by
  have freed : Thins s (allSlots.foldl State.freeingCheck s.framePassed) :=
    .of_entries (congrArg Buffer.entries (freeingChecks_buffer s))
  rw [passFrame_eq]
  split
  · exact freed.trans (evaluateWaitList_thins _)
  · exact freed

theorem frameStart_thins (s : State) : Thins s s.frameStart := by
  unfold State.frameStart
  split
  · exact ((passFrame_thins s).trans (onComposer_table _ _).thins).trans (postAll_table _ _).thins
  · exact .refl s

theorem fenceTake_thins (s : State) (p : Port) : Thins s (s.fenceTake p) := by
  unfold State.fenceTake
  split
  · split
    · rw [completeMarkers_eq]
      refine .of_entries ((withoutCompleting_entries _ _).trans ?_)
      rw [State.onBuffer, List.filterMap_append]
      exact List.append_nil _
    · exact .refl s
  · exact .refl s

/-! ### The drain (R122 to R125, R128) -/

theorem departed_thins (s : State) (e : Entry) : Thins s (s.departed e) := by
  obtain ⟨-, -, items, -, -⟩ := afterLeave_spec s e
  have left : Thins s (s.afterLeave e) :=
    .of_entries ((congrArg (List.filterMap AgeItem.entry?) items).trans (withoutCompleting_entries _ _))
  rw [departed_eq]
  split
  · exact left.trans (evaluateWaitList_thins _)
  · exact left

/-- An entry leaves the age order, with its departure (R125). -/
theorem leave_thins (s : State) (q : Entry → Bool) (v : BitVec 32) (e : Entry) :
    Thins s ((s.onBuffer fun b => { b with items := removeOldest q b.items, voided := v }).departed e) :=
  Thins.trans (t := s.onBuffer fun b => { b with items := removeOldest q b.items, voided := v })
    (succeeds_sublist (removeOldest_entries q s.buffer.items)) (departed_thins _ e)

theorem underfillCompletion_thins (s : State) : Thins s s.underfillCompletion := by
  unfold State.underfillCompletion
  split
  · refine (freeChannel_table s).thins.trans ?_
    unfold State.completeUnderfill
    split
    · split
      · exact leave_thins _ _ _ _
      · exact succeeds_changeOldest _ (succeeds_underfilled _) _
    · exact .refl _
  · exact .refl s

theorem blockWriteCompletion_thins (s : State) : Thins s s.blockWriteCompletion := by
  unfold State.blockWriteCompletion
  split
  · next v b _ =>
    refine ((freeChannel_table s).trans (writeBlock_table _ b v)).thins.trans ?_
    unfold State.completeBlockWrite
    split
    · exact leave_thins _ _ s.buffer.voided _
    · exact .refl _
  · exact .refl s

theorem takeGrant_thins (s : State) (q : Requester) (a : Option Access) : Thins s { s.takeGrant q with channel := a } := by
  cases q with
  | composer | engineRead | clear => exact .of_entries rfl
  | drain =>
    cases head : s.buffer.drainHead with
    | none => simp only [State.takeGrant, head]; exact .of_entries rfl
    | some e => simp only [State.takeGrant, head]; exact succeeds_changeOldest _ succeeds_drainBegin _

theorem grantEvent_thins {s t : State} (e : s.grantEvent = .next t) : Thins s t := by
  unfold State.grantEvent at e
  split at e
  · split at e
    · unfold State.startAccess at e
      split at e <;> cases e
      exact takeGrant_thins s _ _
    · cases e; exact .refl s
  · cases e; exact .refl s

/-! ### Every command but a span post -/

theorem writeOffset_thins (s : State) (p : Port) (offset : BitVec 8) (w : Word) : Thins s (s.writeOffset p offset w) := by
  unfold State.writeOffset
  split
  · next r _ =>
    by_cases lease : r = .leaseOp
    · rw [lease]; exact leaseOp_thins s p _
    by_cases control : r = .control
    · rw [control]
      show Thins s (s.writeControl p w)
      unfold State.writeControl
      split
      · exact detach_thins s p
      · split
        · exact (abort_table s p).thins
        · exact .refl s
    exact (writeRegister_table lease control).thins
  · exact .of_entries rfl

/-- Every command but a span post takes entries away or changes them where they stand. -/
theorem exec_thins {c : Instr} {s t : State} (other : c ≠ .spanPost) (e : exec c s = .next t) : Thins s t := by
  have write {p : Port} {f : State → State} (e : .next (writeAccess s p f) = (.next t : Host.Outcome State Fault Refusal))
      (hf : Thins s (f s)) : Thins s t := by
    cases e
    exact writeAccess_of (.refl s) fun _ => hf
  have own {f : State → State} (e : .next (ownEvent s f) = (.next t : Host.Outcome State Fault Refusal))
      (hf : Thins s (f s)) : Thins s t := by
    cases e
    exact ownEvent_of (.refl s) fun _ => hf
  cases table : touchesTable c with
  | false => exact (exec_table table e).thins
  | true =>
    cases c with
    | deviceReset => cases e; exact .nil
    | portReset p level =>
      simp only [exec, execPortReset] at e
      split at e
      · cases e; exact .refl s
      · cases level with
        | released => cases e; exact .of_entries rfl
        | asserted =>
          cases e
          have detached : Thins s (ownEvent s fun u => u.detach p) := ownEvent_of (.refl s) fun _ => detach_thins s p
          exact detached.trans (.of_entries rfl)
    | request p => exact write e (request_thins s p)
    | release p n => exact write e (release_thins s p n)
    | setVisible p n v => exact write e (setVisible_thins s p n v)
    | cancel p => exact write e (cancel_thins s p)
    | detach p abortToo => cases abortToo <;> exact write e (detach_thins s p)
    | registerWrite p offset w => exact write e (writeOffset_thins s p offset w)
    | leaseTimeout p => exact own e (timeoutLease_thins s p)
    | frameStart => exact own e (frameStart_thins s)
    | grantEvent =>
      simp only [exec, execGrantEvent] at e
      split at e
      · cases e; exact .refl s
      · exact grantEvent_thins e
    | underfillCompletion => exact own e (underfillCompletion_thins s)
    | blockWriteCompletion => exact own e (blockWriteCompletion_thins s)
    | fenceTake p => exact own e (fenceTake_thins s p)
    | spanPost => exact absurd rfl other
    | _ => cases table

/-! ### A span post (R113 to R115) -/

section Post

variable {s : State} (law : OpenOrder s.buffer.entries)
include law

theorem OpenOrder.thins {t : State} (h : Thins s t) : OpenOrder t.buffer.entries := law.succeeds h

theorem OpenOrder.mergePost (o : SpanPost) : OpenOrder (s.mergePost o).buffer.entries :=
  law.succeeds (succeeds_changeYoungest _ (succeeds_merge o) s.buffer.items)

/-- An allocation finds room, and its entry is the one for its block that is OPEN. -/
theorem OpenOrder.allocatePost {o : SpanPost} (room : s.buffer.occupancy < bufferCapacity) (owner : Port) :
    OpenOrder (s.allocatePost o owner).buffer.entries := by
  obtain ⟨closed, changed⟩ : ∃ closed, closed = changeYoungest (fun e => e.block == o.block) Entry.close s.buffer.items :=
    ⟨_, rfl⟩
  have entries : (s.allocatePost o owner).buffer.entries =
      closed.filterMap AgeItem.entry? ++ [⟨o.block, o.mask, o.values, o.handle, owner, .opened⟩] := by
    rw [changed]; exact List.filterMap_append
  have kept : OpenOrder (closed.filterMap AgeItem.entry?) :=
    law.succeeds (changed ▸ succeeds_changeYoungest _ succeeds_close s.buffer.items)
  have count : (closed.filterMap AgeItem.entry?).length = s.buffer.occupancy := changed ▸ changeYoungest_entries _ _ _
  rw [entries]
  refine ⟨?_, List.pairwise_append.mpr ⟨kept.youngest, List.pairwise_singleton _ _, fun e m new last block => ?_⟩⟩
  · rw [List.length_append, count]
    exact room
  · rw [List.mem_singleton.mp last] at block
    exact not_opened_of_close law.youngest o.block (changed ▸ m) block

theorem OpenOrder.spanPost : OpenOrder s.spanPost.buffer.entries := by
  unfold State.spanPost
  split
  · split
    · split
      · unfold State.postSpan
        split
        · exact law.thins (endFault_table _ _ _ _ _).thins
        · exact law
        · exact law.mergePost _
        · next allocated => exact law.allocatePost (postOutcome_allocated allocated) _
      · exact law
    · exact law
  · exact law

theorem OpenOrder.exec {t : State} {c : Instr} (e : exec c s = .next t) : OpenOrder t.buffer.entries := by
  by_cases post : c = .spanPost
  · subst post
    cases e
    exact ownEvent_of (P := fun u => OpenOrder u.buffer.entries) law fun _ => law.spanPost
  · exact law.thins (exec_thins post e)

end Post

/-- Settles O56: a command runs with the queue's rest, and neither that nor a tick touches the entries. -/
theorem pendingWriteBufferLaw : Obligations.PendingWriteBufferLaw := by
  intro s t capacity opened e
  have law : OpenOrder s.buffer.entries := ⟨capacity, opened⟩
  suffices after : OpenOrder t.buffer.entries from ⟨after.capacity, after.youngest⟩
  unfold step at e
  split at e
  · next c rest _ => exact OpenOrder.exec (s := { s with pending := rest }) law e
  · cases e; exact law

end Sys2Proof.Machine
end

section
/-! SUPPORT. The surface memory channel: which request a grant serves and what its requester takes, and the completions of the
reads and of the drain's block write (R119, R121 to R124, R136, R138 to R141, R150, R151). -/

namespace Sys2Proof.Machine

open Sys2Proof.Claims

/-! ### The requests that stand (R121, R138) -/

theorem composerStands_iff (s : State) : s.composerStands = true ↔
    s.composer.fetchLine ≠ none ∧ s.composer.fetchList ≠ [] := by
  simp [State.composerStands, Option.isSome_iff_ne_none]

theorem engineReadStands_iff (s : State) : s.engineReadStands = true ↔
    ∃ r, s.buffer.engineRead = some r ∧ r.granted = false := by
  simp [State.engineReadStands, Option.any_eq_true]

theorem isDraining_iff (sl : Slot) : sl.isDraining = true ↔ ∃ w passed, sl.state = .draining w passed := by
  unfold Slot.isDraining
  cases sl.state <;> simp

theorem anyDraining_iff (s : State) : s.anyDraining = true ↔ ∃ i w passed, (s.slot i).state = .draining w passed := by
  simp [State.anyDraining, allSlots, isDraining_iff]

/-- The drain head is the entry behind VOID ones alone that is not VOID (R110). -/
theorem drainHead_eq_some_iff (b : Buffer) (e : Entry) : b.drainHead = some e ↔ e.state ≠ .voided ∧
    ∃ old young, b.entries = old ++ e :: young ∧ ∀ v ∈ old, v.state = .voided := by
  simp [Buffer.drainHead, List.find?_eq_some_iff_append]

/-- One of the reasons to drain an OPEN or CLOSED drain head (R121). -/
theorem drainStands_of_head {s : State} {e : Entry} (head : s.buffer.drainHead = some e) : s.drainStands = true ↔
    (e.state = .opened ∨ e.state = .closed) ∧
      (s.config.drainMark.toNat ≤ s.buffer.entries.length ∨ e.state = .closed ∨ s.buffer.markers ≠ [] ∨
        (∃ i w passed, (s.slot i).state = .draining w passed) ∨ s.engine.current = none) := by
  simp only [State.drainStands, head, Bool.and_eq_true, Bool.or_eq_true, beq_iff_eq, decide_eq_true_eq, anyDraining_iff,
    or_assoc, Bool.not_eq_true', List.isEmpty_eq_false_iff, Option.isNone_iff_eq_none]
  exact Iff.rfl

theorem drainStands_iff (s : State) : s.drainStands = true ↔ DrainRequest s := by
  constructor
  · intro stands
    cases head : s.buffer.drainHead with
    | none => simp [State.drainStands, head] at stands
    | some e =>
      obtain ⟨-, old, young, split, voided⟩ := (drainHead_eq_some_iff s.buffer e).mp head
      exact ⟨old, young, e, split, voided, (drainStands_of_head head).mp stands⟩
  · rintro ⟨old, young, e, split, voided, state, reason⟩
    have live : e.state ≠ .voided := by rcases state with state | state <;> simp [state]
    have head := (drainHead_eq_some_iff s.buffer e).mpr ⟨live, old, young, split, voided⟩
    exact (drainStands_of_head head).mpr ⟨state, reason⟩

/-! ### The arbiter's choice (R140) -/

section Arbiter

variable {s : State}

theorem arbitrate_composer (stands : s.composer.fetchLine ≠ none ∧ s.composer.fetchList ≠ []) :
    s.arbitrate = some .composer := by
  rw [State.arbitrate, if_pos ((composerStands_iff s).mpr stands)]

variable (idle : ¬ (s.composer.fetchLine ≠ none ∧ s.composer.fetchList ≠ []))
include idle

theorem arbitrate_engineRead (stands : ∃ r, s.buffer.engineRead = some r ∧ r.granted = false)
    (turn : ¬ DrainRequest s ∨ s.alternation = .drain) : s.arbitrate = some .engineRead := by
  rw [← composerStands_iff] at idle
  rw [← engineReadStands_iff] at stands
  rw [← drainStands_iff] at turn
  rcases turn with turn | turn <;> simp [State.arbitrate, idle, stands, turn]

theorem arbitrate_drain (stands : DrainRequest s)
    (turn : ¬ (∃ r, s.buffer.engineRead = some r ∧ r.granted = false) ∨ s.alternation = .engineRead) :
    s.arbitrate = some .drain := by
  rw [← composerStands_iff] at idle
  rw [← drainStands_iff] at stands
  rw [← engineReadStands_iff] at turn
  rcases turn with turn | turn <;> simp [State.arbitrate, idle, stands, turn]

theorem arbitrate_rest (unread : ¬ ∃ r, s.buffer.engineRead = some r ∧ r.granted = false) (undrained : ¬ DrainRequest s) :
    s.arbitrate = if s.clearStands then some .clear else none := by
  rw [← composerStands_iff] at idle
  rw [← engineReadStands_iff] at unread
  rw [← drainStands_iff] at undrained
  simp [State.arbitrate, idle, unread, undrained]

end Arbiter

/-! ### The grant (R122, R139, R140) -/

section Grant

variable {s : State} (running : s.deviceReset = false)
include running

theorem exec_grantEvent : exec .grantEvent s = s.grantEvent := if_neg (by simp [running])

theorem exec_grantEvent_of_busy (busy : s.channel ≠ none) : exec .grantEvent s = .next s := by
  rw [exec_grantEvent running, State.grantEvent]
  split
  · next free _ => exact absurd free busy
  · rfl

theorem exec_grantEvent_of_none (none : s.arbitrate = none) : exec .grantEvent s = .next s := by
  rw [exec_grantEvent running, State.grantEvent]
  split
  · next chosen => rw [none] at chosen; cases chosen
  · rfl

/-- The chosen request takes the channel with an access inside the surface. -/
theorem exec_grantEvent_of_chosen {q : Requester} {a : Access} (free : s.channel = none) (chosen : s.arbitrate = some q)
    (access : s.accessFor q = some a) (inside : s.holdsBlock a.block) :
    exec .grantEvent s = .next { s.takeGrant q with channel := some a } := by
  rw [exec_grantEvent running, State.grantEvent]
  simp only [free, chosen, access]
  rw [State.startAccess, if_pos ((inSurface_iff s a.block).mpr inside)]

end Grant

theorem maskFull_iff (m : PixelMask) : maskFull m = true ↔ ∀ i : Fin 16, m[i] = true := by
  rw [maskFull, List.all_eq_true]
  constructor
  · exact fun full i => full _ (by simp)
  · intro full b m
    obtain ⟨i, inside, rfl⟩ := List.getElem_of_mem m
    simpa using full ⟨i, by simpa using inside⟩

theorem maskFull_eq_false {m : PixelMask} (partly : ∃ i : Fin 16, m[i] = false) : maskFull m = false := by
  obtain ⟨i, hole⟩ := partly
  refine Bool.eq_false_of_not_eq_true fun full => ?_
  rw [(maskFull_iff m).mp full i] at hole
  cases hole

/-- What drain begin does at the place of the drain head (R122). -/
theorem drainHead_at {b : Buffer} {old young : List AgeItem} {e : Entry} (items : b.items = old ++ .entry e :: young)
    (voided : ∀ v ∈ old.filterMap AgeItem.entry?, v.state = .voided) (live : e.state ≠ .voided) :
    b.drainHead = some e ∧ b.drainBegin e = { b with
      items := old ++ .entry e.drainBegin :: young
      underfills := if maskFull e.mask then b.underfills else b.underfills + 1 } := by
  obtain ⟨found, -, changed⟩ := oldest_at (q := fun v => v.state != .voided) (old := old) (young := young)
    (bne_iff_ne.mpr live) fun v m => by simp [voided v m]
  rw [Buffer.drainHead, Buffer.entries, Buffer.drainBegin, items, changed]
  exact ⟨found, rfl⟩

/-- Settles O40: the arbiter's choice from the requests that stand, and what the chosen one takes. -/
theorem grantOutcome : Obligations.GrantOutcome := by
  intro s running
  refine ⟨exec_grantEvent_of_busy running, fun free => ⟨?_, ?_, ?_, ?_, ?_⟩⟩
  · intro y b rest line list inside
    have access : s.accessFor .composer = some ⟨.blockRead, ⟨b.layer, y, b.column⟩, .composer⟩ := by
      simp only [State.accessFor, line, list]
    rw [exec_grantEvent_of_chosen running free (arbitrate_composer (by simp [line, list])) access inside]
    simp only [State.takeGrant, State.onComposer, Composer.takeGrant, line, list]
  · intro idle stands turn r read inside
    have access : s.accessFor .engineRead = some ⟨.blockRead, r.block, .engineRead⟩ := by
      rw [State.accessFor, read, Option.map_some]
    rw [exec_grantEvent_of_chosen running free (arbitrate_engineRead idle stands turn) access inside]
    simp only [State.takeGrant, State.onBuffer, read, Option.map_some]
  · intro idle stands turn old young e items voided live inside
    obtain ⟨head, begun⟩ := drainHead_at items voided live
    have block : e.drainAccess.block = e.block := by unfold Entry.drainAccess; split <;> rfl
    have access : s.accessFor .drain = some e.drainAccess := by rw [State.accessFor, head, Option.map_some]
    rw [exec_grantEvent_of_chosen running free (arbitrate_drain idle stands turn) access (block ▸ inside)]
    simp only [State.takeGrant, head, State.onBuffer, begun, Entry.drainBegin, Entry.drainAccess]
    refine ⟨fun full => ?_, fun partly => ?_⟩
    · rw [← maskFull_iff] at full
      simp only [full, if_true]
    · simp only [maskFull_eq_false partly, Bool.false_eq_true, if_false]
  · intro idle unread undrained clearing b position inside
    have stands : s.clearStands = true := by simp [State.clearStands, clearing, position, free]
    have access : s.accessFor .clear = some ⟨.blockWrite zeroBlock, b, .clear⟩ := by
      rw [State.accessFor, position, Option.map_some]
    exact exec_grantEvent_of_chosen running free ((arbitrate_rest idle unread undrained).trans (if_pos stands)) access inside
  · intro idle unread undrained still
    have rests : ¬ s.clearStands = true := by simp [State.clearStands, still]
    exact exec_grantEvent_of_none running ((arbitrate_rest idle unread undrained).trans (if_neg rests))

/-! ### The completions of reads (R119, R150, R151) -/

theorem exec_engineReadDelivery {s : State} {n : BlockName} (running : s.deviceReset = false)
    (channel : s.channel = some ⟨.blockRead, n, .engineRead⟩) : exec .engineReadDelivery s = .next { s with
      channel := none
      buffer := { s.buffer with engineRead := none }
      engine := s.engine.deliver (s.buffer.overlay n (s.readBlock n)) } := by
  refine congrArg Host.Outcome.next ((ownEvent_of_running running _).trans ?_)
  simp only [State.engineReadDelivery, channel]
  rfl

theorem exec_fetchCompletion {s : State} {n : BlockName} (running : s.deviceReset = false)
    (channel : s.channel = some ⟨.blockRead, n, .composer⟩) : exec .fetchCompletion s = .next { s with
      channel := none
      composer := s.composer.completeFetch (s.readBlock n) } := by
  refine congrArg Host.Outcome.next ((ownEvent_of_running running _).trans ?_)
  simp only [State.fetchCompletion, channel]
  rfl

theorem lineBuffer_setBuffer (c : Composer) (y z : Nat) (b : LineBuffer) :
    (c.setBuffer y b).lineBuffer z = if z % 2 = y % 2 then b else c.lineBuffer z := by
  unfold Composer.setBuffer Composer.lineBuffer
  by_cases same : z % 2 = y % 2
  · by_cases even : y % 2 = 0 <;> simp [same, even]
  · rcases Nat.mod_two_eq_zero_or_one y with here | here
    · have there : z % 2 = 1 := by omega
      simp [here, there]
    · have there : z % 2 = 0 := by omega
      simp [here, there]

theorem setBuffer_rest (c : Composer) (y : Nat) (b : LineBuffer) (flight : Option FetchInFlight) :
    (c.setBuffer y b).inFlight = c.inFlight ∧
      { c.setBuffer y b with inFlight := flight, buffer0 := c.buffer0, buffer1 := c.buffer1 } =
        { c with inFlight := flight } := by
  unfold Composer.setBuffer
  split <;> exact ⟨rfl, rfl⟩

/-- A fetched block reaches the buffer of its line alone, and a dropped one none (R150, R151). -/
theorem completeFetch_spec {c : Composer} {f : FetchInFlight} (flight : c.inFlight = some f) (b : Block) :
    (c.completeFetch b).inFlight = none ∧
      (∀ y, y % 2 ≠ f.line % 2 → (c.completeFetch b).lineBuffer y = c.lineBuffer y) ∧
      (c.completeFetch b).lineBuffer f.line = (if f.dropped then c.lineBuffer f.line
        else { c.lineBuffer f.line with blocks := (f.block, b) :: (c.lineBuffer f.line).blocks }) ∧
      { c.completeFetch b with inFlight := c.inFlight, buffer0 := c.buffer0, buffer1 := c.buffer1 } = c := by
  cases dropped : f.dropped with
  | true =>
    have landed : c.completeFetch b = { c with inFlight := none } := by
      simp only [Composer.completeFetch, flight, dropped, if_true]
    rw [landed]
    exact ⟨rfl, fun _ _ => rfl, rfl, rfl⟩
  | false =>
    have landed : c.completeFetch b = Composer.setBuffer { c with inFlight := none } f.line
        { c.lineBuffer f.line with blocks := (f.block, b) :: (c.lineBuffer f.line).blocks } := by
      simp only [Composer.completeFetch, flight, dropped, Bool.false_eq_true, if_false]
      rfl
    obtain ⟨inFlight, rest⟩ := setBuffer_rest { c with inFlight := none } f.line
      { c.lineBuffer f.line with blocks := (f.block, b) :: (c.lineBuffer f.line).blocks } c.inFlight
    rw [landed]
    exact ⟨inFlight, fun y other => (lineBuffer_setBuffer _ _ _ _).trans (if_neg other),
      (lineBuffer_setBuffer _ _ _ _).trans (if_pos rfl), rest⟩

/-- Settles O41: a delivered engine read, and a fetched block at its line buffer. -/
theorem readCompletions : Obligations.ReadCompletions := by
  intro s n running
  refine ⟨fun channel => ?_, fun channel f flight => ?_⟩
  · exact exec_engineReadDelivery running channel
  · obtain ⟨landed, others, line, rest⟩ := completeFetch_spec flight (s.readBlock n)
    refine ⟨_, exec_fetchCompletion running channel, rfl, landed, others, line, ?_⟩
    simp only [rest]

/-! ### The completions of the drain (R123, R124, R128, R136) -/

theorem exec_underfillCompletion {s : State} {n : BlockName} (running : s.deviceReset = false)
    (channel : s.channel = some ⟨.blockRead, n, .drain⟩) :
    exec .underfillCompletion s = .next (s.freeChannel.completeUnderfill (s.readBlock n)) := by
  refine congrArg Host.Outcome.next ((ownEvent_of_running running _).trans ?_)
  simp only [State.underfillCompletion, channel]

theorem exec_blockWriteCompletion {s : State} {v : Block} {n : BlockName} (running : s.deviceReset = false)
    (channel : s.channel = some ⟨.blockWrite v, n, .drain⟩) :
    exec .blockWriteCompletion s = .next (s.freeChannel.writeBlock n v).completeBlockWrite := by
  refine congrArg Host.Outcome.next ((ownEvent_of_running running _).trans ?_)
  simp only [State.blockWriteCompletion, channel]

section Drain

variable {s : State} {old young : List AgeItem} {e : Entry} (items : s.buffer.items = old ++ .entry e :: young)
include items

/-- A FILLING entry takes the pixels that it lacks (R123). -/
theorem completeUnderfill_filling (before : ∀ v ∈ old.filterMap AgeItem.entry?, v.state ≠ .filling ∧ v.state ≠ .voided)
    (filling : e.state = .filling) (memory : Block) : s.completeUnderfill memory =
      { s with buffer := { s.buffer with items := old ++ .entry (e.underfilled memory) :: young } } := by
  obtain ⟨found, -, changed⟩ := oldest_at (q := Entry.awaitsUnderfill) (old := old) (young := young) (e := e)
    (by simp [Entry.awaitsUnderfill, filling]) fun v m => by simp [Entry.awaitsUnderfill, before v m]
  simp only [State.completeUnderfill, Buffer.entries, items, found, filling, State.onBuffer, changed]
  rfl

/-- A VOID entry leaves (R128). -/
theorem completeUnderfill_voided (before : ∀ v ∈ old.filterMap AgeItem.entry?, v.state ≠ .filling ∧ v.state ≠ .voided)
    (voided : e.state = .voided) (memory : Block) : s.completeUnderfill memory =
      State.departed { s with buffer := { s.buffer with items := old ++ young, voided := s.buffer.voided + 1 } } e := by
  obtain ⟨found, removed, -⟩ := oldest_at (q := Entry.awaitsUnderfill) (old := old) (young := young) (e := e)
    (by simp [Entry.awaitsUnderfill, voided]) fun v m => by simp [Entry.awaitsUnderfill, before v m]
  simp only [State.completeUnderfill, Buffer.entries, items, found, voided, State.onBuffer, removed]
  rfl

/-- The WRITING entry leaves (R124). -/
theorem completeBlockWrite_at (before : ∀ v ∈ old.filterMap AgeItem.entry?, v.state ≠ .writing)
    (writing : e.state = .writing) : s.completeBlockWrite =
      State.departed { s with buffer := { s.buffer with items := old ++ young } } e := by
  obtain ⟨found, removed, -⟩ := oldest_at (q := Entry.isWriting) (old := old) (young := young) (e := e)
    (by simp [Entry.isWriting, writing]) fun v m => by simp [Entry.isWriting, before v m]
  simp only [State.completeBlockWrite, Buffer.entries, items, found, State.onBuffer, removed]

end Drain

/-- Settles the part of O42 on the underfill read. -/
theorem underfillOutcome : Claims.UnderfillOutcome := by
  intro s n old young e running channel items before
  rw [exec_underfillCompletion running channel]
  refine ⟨fun filling => ⟨e.underfilled (s.readBlock n), ?_, rfl, ?_, fun i => ?_⟩, fun voided => ?_⟩
  · rw [completeUnderfill_filling (s := s.freeChannel) items before filling]
    rfl
  · simp only [Entry.underfilled]
  · simp [Entry.underfilled]
  · rw [completeUnderfill_voided (s := s.freeChannel) items before voided]
    rfl

/-- Settles the part of O42 on the block write: memory changes where the block was written. -/
theorem blockWriteOutcome : Claims.BlockWriteOutcome := by
  intro s v n old young e running channel items writing before
  refine ⟨{ s.freeChannel.writeBlock n v with buffer := { s.buffer with items := old ++ young } }, ?_,
    Memory.readBlock_writeBlock _ _ _, fun x outside => Memory.read_writeBlock_of_outside _ _ _ _ outside,
    (departed_frame _ e).memory, rfl⟩
  rw [exec_blockWriteCompletion running channel,
    completeBlockWrite_at (s := s.freeChannel.writeBlock n v) items before writing]
  rfl

/-- Settles O42: the completion of the underfill read and that of the block write. -/
theorem drainCompletions : Obligations.DrainCompletions := ⟨underfillOutcome, blockWriteOutcome⟩

end Sys2Proof.Machine
end

section
/-! SUPPORT. The pixel composed at a place of a line, the generator's line events, and the panel output over a line period
(R145 to R147, R152 to R154). -/

namespace Sys2Proof.Machine

open Sys2Proof.Claims

/-! ### The composed pixel (R153) -/

/-- An item of the list governs a pixel in a layer: it covers the pixel, and no item of the layer before it does (R153). -/
def Governs (list : List DisplayItem) (x y : Nat) (layer : Layer) (d : DisplayItem) : Prop :=
  ∃ before after, list = before ++ d :: after ∧ d.layer = layer ∧ regionCovers d.region x y = true ∧
    ∀ c ∈ before, c.layer = layer → regionCovers c.region x y = false

/-- A layer yields its pixel: an item governs it there, and the pixel is not that item's key (R153). -/
def Yields (list : List DisplayItem) (b : LineBuffer) (x y : Nat) (layer : Layer) : Prop :=
  ∃ d, Governs list x y layer d ∧ d.key ≠ some (b.pixel layer x)

section Pixel

variable (list : List DisplayItem) (b : LineBuffer) (background : Pixel) (x y : Nat)

theorem governing_eq_some_iff (layer : Layer) (d : DisplayItem) :
    governing list layer x y = some d ↔ Governs list x y layer d := by
  simp only [governing, DisplayItem.covers, List.find?_eq_some_iff_append, Bool.and_eq_true, beq_iff_eq,
    Bool.not_eq_true', Bool.and_eq_false_imp]
  constructor
  · rintro ⟨⟨at_, covers⟩, before, after, split, bare⟩
    exact ⟨before, after, split, at_, covers, bare⟩
  · rintro ⟨before, after, split, at_, covers, bare⟩
    exact ⟨⟨at_, covers⟩, before, after, split, bare⟩

theorem layerValue_of_yields {layer : Layer} (h : Yields list b x y layer) :
    layerValue list b layer x y = some (b.pixel layer x) := by
  obtain ⟨d, governs, unkeyed⟩ := h
  simp only [layerValue, (governing_eq_some_iff list x y layer d).mpr governs, if_neg unkeyed]

theorem layerValue_of_not_yields {layer : Layer} (h : ¬ Yields list b x y layer) :
    layerValue list b layer x y = none := by
  unfold layerValue
  cases found : governing list layer x y with
  | none => rfl
  | some d =>
    have governs := (governing_eq_some_iff list x y layer d).mp found
    exact if_pos (not_not.mp fun unkeyed => h ⟨d, governs, unkeyed⟩)

/-- The layers are read from the top down, so the topmost one that yields a pixel is the first found. -/
theorem composePixel_of_topmost {layer : Layer} (yields : Yields list b x y layer)
    (topmost : ∀ above, layer < above → ¬ Yields list b x y above) :
    composePixel list b background x y = b.pixel layer x := by
  obtain ⟨above, below, split⟩ := List.append_of_mem (mem_layersDown layer)
  have higher : ∀ l ∈ above, layer < l := fun l m =>
    (List.pairwise_append.mp (split ▸ layersDown_sorted)).2.2 l m layer List.mem_cons_self
  have found : (layersDown.findSome? fun l => layerValue list b l x y) = some (b.pixel layer x) :=
    List.findSome?_eq_some_iff.mpr ⟨above, layer, below, split, layerValue_of_yields list b x y yields,
      fun l m => layerValue_of_not_yields list b x y (topmost l (higher l m))⟩
  rw [composePixel, found, Option.getD_some]

theorem composePixel_of_none (bare : ∀ layer, ¬ Yields list b x y layer) :
    composePixel list b background x y = background := by
  have missed : (layersDown.findSome? fun l => layerValue list b l x y) = none :=
    List.findSome?_eq_none_iff.mpr fun l _ => layerValue_of_not_yields list b x y (bare l)
  rw [composePixel, missed, Option.getD_none]

end Pixel

/-- Settles O47: the topmost layer that yields a pixel gives it, and BACKGROUND stands where none does. -/
theorem composedPixel : Obligations.ComposedPixel := fun list b background x y =>
  ⟨fun _ yields topmost => composePixel_of_topmost list b background x y yields topmost,
    fun bare => composePixel_of_none list b background x y bare⟩

/-! ### Line due (R150, R152, R154) -/

theorem fetchComplete_iff (c : Composer) (y : Nat) : c.fetchComplete y = true ↔
    c.fetchList = [] ∧ ∀ f, c.inFlight = some f → f.line = y → f.dropped = true := by
  rw [Composer.fetchComplete, Bool.and_eq_true, List.isEmpty_iff]
  refine and_congr_right fun _ => ?_
  cases c.inFlight with
  | none => simp
  | some f => simpa using imp_iff_not_or.symm

/-- The line buffer of line `z` once LINE_DUE(y) has been taken on a surface `h` lines high (R150, R152). -/
def Composer.bufferAfter (h y z : Nat) (c : Composer) : LineBuffer :=
  if y + 1 < h ∧ z % 2 = (y + 1) % 2 then ⟨some (y + 1), []⟩
  else if y = 0 then c.lineBuffer z else (c.lineBuffer z).release (y - 1)

theorem beginFetch_eq (c : Composer) (w y : Nat) : c.beginFetch w y = { c with
    fetchLine := some y, fetchList := fetchListOf c.displayList w y
    buffer0 := if y % 2 = 0 then ⟨some y, []⟩ else c.buffer0
    buffer1 := if y % 2 = 1 then ⟨some y, []⟩ else c.buffer1 } := by
  unfold Composer.beginFetch Composer.setBuffer
  rcases Nat.mod_two_eq_zero_or_one y with even | odd
  · simp [even]
  · simp [odd]

section Send

variable (c : Composer) (w h y : Nat) (pixels : List Pixel)

/-- What LINE_DUE(y) leaves of the Composer, with each line buffer said by `bufferAfter` (R152). -/
theorem sendLine_eq : c.sendLine w h y pixels = { c with
    position := .visible y, sentLine := pixels
    fetchLine := if y + 1 < h then some (y + 1) else none
    fetchList := if y + 1 < h then fetchListOf c.displayList w (y + 1) else c.fetchList
    buffer0 := c.bufferAfter h y 0, buffer1 := c.bufferAfter h y 1 } := by
  unfold Composer.sendLine Composer.bufferAfter Composer.lineBuffer
  cases y with
  | zero => by_cases next : 1 < h <;> simp [next, beginFetch_eq]
  | succ k => by_cases next : k + 1 + 1 < h <;> simp [next, beginFetch_eq, Composer.releaseLine, eq_comm]

theorem lineBuffer_sendLine (z : Nat) : (c.sendLine w h y pixels).lineBuffer z = c.bufferAfter h y z := by
  rw [sendLine_eq]
  unfold Composer.bufferAfter Composer.lineBuffer
  rcases Nat.mod_two_eq_zero_or_one z with even | odd
  · simp [even]
  · simp [odd]

theorem bufferAfter_next (next : y + 1 < h) : c.bufferAfter h y (y + 1) = ⟨some (y + 1), []⟩ := if_pos ⟨next, rfl⟩

theorem bufferAfter_last (last : y + 1 = h) (later : 1 ≤ y) : c.bufferAfter h y (y + 1) =
    if (c.lineBuffer (y + 1)).serves = some (y - 1) then ⟨none, []⟩ else c.lineBuffer (y + 1) := by
  rw [Composer.bufferAfter, if_neg (by omega), if_neg (by omega)]
  rfl

/-- The buffer of line `y` itself stays, unless it serves the line before. -/
theorem bufferAfter_sent {line : Nat} (serves : (c.lineBuffer y).serves = some line) (other : line ≠ y - 1 ∨ y = 0) :
    c.bufferAfter h y y = c.lineBuffer y := by
  rw [Composer.bufferAfter, if_neg (by omega)]
  split
  · rfl
  · next later =>
    have kept : line ≠ y - 1 := other.resolve_right later
    exact if_neg (by simpa [serves] using kept)

end Send

theorem nextLine_eq {s : State} {y : Nat} (running : s.composer.running = true) (inside : y < s.surfaceHeight)
    (position : s.composer.position = .lead ∧ y = 0 ∨ ∃ z, s.composer.position = .visible z ∧ y = z + 1) :
    s.nextLine = some y := by
  rw [State.nextLine, if_pos running]
  rcases position with ⟨lead, rfl⟩ | ⟨z, visible, rfl⟩
  · rw [lead]
  · simp only [visible, if_pos inside]

theorem exec_lineDue {s : State} {y : Nat} (released : s.deviceReset = false) (next : s.nextLine = some y) :
    exec .lineDue s = .next (s.lineDueAt y) := by
  refine congrArg Host.Outcome.next ((ownEvent_of_running released _).trans ?_)
  rw [State.lineDue, next]

/-- The Composer as LINE_DUE(y) leaves it: the line composed when its fetch is complete, else dropped and sent as
BACKGROUND (R152, R154). -/
theorem lineDueAt_eq (s : State) (y : Nat) : s.lineDueAt y = if s.composer.fetchComplete y then
    { s with
      composer := s.composer.sendLine s.surfaceWidth s.surfaceHeight y
        (composeLine s.composer.displayList (s.composer.lineBuffer y) s.config.background s.surfaceWidth y) }
    else { s with
      composer := (s.composer.dropLine y).sendLine s.surfaceWidth s.surfaceHeight y
        (List.replicate s.surfaceWidth s.config.background)
      ports := if s.composer.underrunReported then s.ports
        else (s.postAll (.underrun s.composer.frameNumber y)).ports } := by
  unfold State.lineDueAt
  split
  · rfl
  · cases s.composer.underrunReported with
    | true => rfl
    | false => exact postAll_eq _ _

/-- Settles the part of O48 on LINE_DUE: the line sent and the notices follow the fetch of line `y`, the buffers do not. -/
theorem lineDueOutcome : Claims.LineDueOutcome := by
  intro s y released running inside position complete
  refine ⟨s.lineDueAt y, exec_lineDue released (nextLine_eq running inside position), ?_⟩
  rw [lineDueAt_eq]
  by_cases fetched : complete
  · rw [if_pos ((fetchComplete_iff s.composer y).mpr fetched)]
    simp only [lineBuffer_sendLine, if_pos fetched]
    rw [sendLine_eq]
    refine ⟨rfl, by simp [composeLine], fun x hx => by simp [composeLine, hx], fun next => ?_, fun last => ?_,
      fun line => bufferAfter_sent _ _ _, rfl, rfl, rfl, fun p => (if_pos (.inl fetched)).symm, rfl⟩
    · exact ⟨if_pos next, if_pos next, bufferAfter_next _ _ _ next⟩
    · exact ⟨if_neg (by omega), (if_neg (by omega)).trans fetched.1, bufferAfter_last _ _ _ last⟩
  · rw [if_neg fun h => fetched ((fetchComplete_iff s.composer y).mp h)]
    simp only [lineBuffer_sendLine, if_neg fetched]
    rw [sendLine_eq]
    refine ⟨rfl, by simp, fun x hx => by simp [hx], fun next => ?_, fun last => ?_,
      fun line => bufferAfter_sent (s.composer.dropLine y) _ _, rfl, rfl, rfl, fun p => ?_, rfl⟩
    · exact ⟨if_pos next, if_pos next, bufferAfter_next _ _ _ next⟩
    · exact ⟨if_neg (by omega), if_neg (by omega), bufferAfter_last (s.composer.dropLine y) _ _ last⟩
    · cases reported : s.composer.underrunReported with
      | true => simp
      | false => simpa [fetched] using State.postAll_get s _ p

/-! ### Trailing blank lines (R146) -/

theorem nextTrailing_eq {s : State} {k : Nat} (running : s.composer.running = true) (few : k < s.config.vblank.toNat)
    (position : k = 1 ∧ s.composer.position = .visible (s.surfaceHeight - 1) ∧ 1 ≤ s.surfaceHeight ∨
      2 ≤ k ∧ s.composer.position = .trailing (k - 1)) : s.nextTrailing = some k := by
  rw [State.nextTrailing, if_pos running]
  rcases position with ⟨rfl, visible, rows⟩ | ⟨later, trailing⟩
  · simp only [visible, Nat.sub_add_cancel rows, few, and_self, if_true]
  · have succ : k - 1 + 1 = k := by omega
    simp only [trailing, succ, if_pos few]

/-- Settles the part of O48 on the trailing blank lines. -/
theorem trailingBlankLines : Claims.TrailingBlankLines := by
  intro s k released running few position
  refine congrArg Host.Outcome.next ((ownEvent_of_running released _).trans ?_)
  rw [State.trailingBlankLine, nextTrailing_eq running few position]
  rfl

/-! ### The panel output (R145, R147) -/

section Panel

variable {s : State} (n : Nat)

theorem panel_of_blank (blank : s.composer.running = false ∨ s.composer.position = .initial) :
    s.panelPixel n = 0 ∧ s.lineSync n = false ∧ s.frameSync = false := by
  unfold State.panelPixel State.lineSync State.frameSync
  rcases blank with off | initial
  · simp [off]
  · cases s.composer.running <;> simp [initial]

section Running

variable (running : s.composer.running = true)
include running

theorem lineSync_iff (started : s.composer.position ≠ .initial) : s.lineSync n = true ↔
    s.config.width.toNat ≤ n ∧ n < s.config.width.toNat + s.config.hblank.toNat := by
  unfold State.lineSync
  rw [running]
  cases position : s.composer.position with
  | initial => exact absurd position started
  | lead | visible | trailing => exact decide_eq_true_iff

theorem panelPixel_visible {y : Nat} (visible : s.composer.position = .visible y) :
    s.panelPixel n = if n < s.config.width.toNat then s.composer.sentLine.getD n 0 else 0 := by
  simp only [State.panelPixel, running, visible]
  rfl

theorem frameSync_visible {y : Nat} (visible : s.composer.position = .visible y) : s.frameSync = false := by
  simp only [State.frameSync, running, visible]

theorem panel_of_vertical_blank (blank : s.composer.position = .lead ∨ ∃ k, s.composer.position = .trailing k) :
    s.frameSync = true ∧ s.panelPixel n = 0 := by
  unfold State.frameSync State.panelPixel
  rcases blank with lead | ⟨k, trailing⟩
  · simp [running, lead]
  · simp [running, trailing]

end Running

end Panel

/-- Settles the part of O48 on the panel output. -/
theorem panelOutputs : Claims.PanelOutputs := by
  intro s n lineSyncPeriod blank
  have active (h : ¬ blank) : s.composer.running = true ∧ s.composer.position ≠ .initial :=
    ⟨Bool.eq_true_of_not_eq_false fun off => h (.inl off), fun initial => h (.inr initial)⟩
  refine ⟨panel_of_blank n, fun h => ?_, fun h ⟨y, visible⟩ => ?_, fun h => panel_of_vertical_blank n (active h).1⟩
  · obtain ⟨running, started⟩ := active h
    exact lineSync_iff n running started
  · obtain ⟨running, -⟩ := active h
    rw [panelPixel_visible n running visible]
    refine ⟨frameSync_visible running visible, fun shown v sent => ?_, fun hidden => if_neg (by omega)⟩
    rw [if_pos shown, List.getD_eq_getElem?_getD, sent, Option.getD_some]

/-- Settles O48: LINE_DUE, the trailing blank lines and the panel output. -/
theorem linesOfAFrame : Obligations.LinesOfAFrame := ⟨lineDueOutcome, trailingBlankLines, panelOutputs⟩

end Sys2Proof.Machine
end

section
/-! SUPPORT. How a command is answered: every command but GRANT_EVENT by a next state, none by a refusal, and the queue of waiting
commands as it was (R161, section 9.1). -/

namespace Sys2Proof.Machine

/-- Settles O1: the model's step takes the front command off the queue and runs it. -/
theorem stepRunsFrontCommand : Obligations.StepRunsFrontCommand := fun _ _ _ => rfl

/-! ### The operations that reach the configuration logic, the Composer or the channel leave the waiting commands -/

theorem enterRun_pending (s : State) : s.enterRun.pending = s.pending := (postAll_frame _ _).pending

theorem writeConfig_pending (s : State) (p : Port) (f : ConfigField) (w : Word) : (s.writeConfig p f w).pending = s.pending := by
  unfold State.writeConfig
  split <;> rfl

theorem takeCommit_pending (s : State) (p : Port) : (s.takeCommit p).pending = s.pending := by
  unfold State.takeCommit
  split
  · split
    · simp only []
      split
      · rfl
      · exact enterRun_pending _
    · rfl
  · rfl

/-- No word written to a register reaches them, also where the write is another command's row. -/
theorem writeRegister_pending (s : State) (p : Port) (r : Register) (w : Word) :
    (s.writeRegister p r w).pending = s.pending := by
  cases plain : writeHasOwnRow r w with
  | false => exact (writeRegister_event plain).pending
  | true =>
    cases r with
    | submit => exact (submit_event s p _).pending
    | leaseOp => exact (leaseOp_frame s p _).pending
    | uploadPush => exact (pushUpload_event s p w).pending
    | control => exact (writeControl_event s p w).pending
    | intEnable | noticeEnable => rfl
    | config f => exact writeConfig_pending s p f w
    | commit => exact takeCommit_pending s p
    | _ => cases plain

theorem writeOffset_pending (s : State) (p : Port) (offset : BitVec 8) (w : Word) :
    (s.writeOffset p offset w).pending = s.pending := by
  unfold State.writeOffset
  split
  · exact writeRegister_pending s p _ w
  · rfl

theorem frameStart_pending (s : State) : s.frameStart.pending = s.pending := by
  unfold State.frameStart
  split
  · rw [(postAll_frame _ _).pending, State.onComposer_pending, (passFrame_frame s).pending]
  · rfl

theorem lineDue_pending (s : State) : s.lineDue.pending = s.pending := by
  unfold State.lineDue State.lineDueAt
  split
  · simp only []
    split
    · rfl
    · split
      · rfl
      · exact (postAll_frame _ _).pending
  · rfl

theorem trailingBlankLine_pending (s : State) : s.trailingBlankLine.pending = s.pending := by
  unfold State.trailingBlankLine
  split <;> rfl

theorem underfillCompletion_pending (s : State) : s.underfillCompletion.pending = s.pending := by
  unfold State.underfillCompletion
  split
  · exact (completeUnderfill_event _ _).pending
  · rfl

theorem blockWriteCompletion_pending (s : State) : s.blockWriteCompletion.pending = s.pending := by
  unfold State.blockWriteCompletion
  split
  · exact (completeBlockWrite_event _).pending
  · rfl

theorem engineReadDelivery_pending (s : State) : s.engineReadDelivery.pending = s.pending := by
  unfold State.engineReadDelivery
  split <;> rfl

theorem fetchCompletion_pending (s : State) : s.fetchCompletion.pending = s.pending := by
  unfold State.fetchCompletion
  split <;> rfl

theorem clearWriteCompletion_pending (s : State) : s.clearWriteCompletion.pending = s.pending := by
  unfold State.clearWriteCompletion
  split
  · unfold State.advanceClear
    split
    · rfl
    · exact enterRun_pending _
  · rfl

/-! ### The ways a command completes -/

/-- The outcome is a next state, with the waiting commands of `s`. -/
def Completes (s : State) (o : Host.Outcome State Fault Refusal) : Prop := ∃ t, o = .next t ∧ t.pending = s.pending

section Ways

variable {s : State} {p : Port} {f : State → State}

theorem writeAccess_completes (h : (f s).pending = s.pending) : Completes s (.next (writeAccess s p f)) :=
  ⟨_, rfl, writeAccess_of (P := fun t => t.pending = s.pending) rfl fun _ => h⟩

theorem readAccess_completes {w : Word} (h : (f s).pending = s.pending) : Completes s (.next (readAccess s p w f)) :=
  ⟨_, rfl, readAccess_of (P := fun t => t.pending = s.pending) rfl (fun _ => h) fun _ _ kept => kept⟩

theorem ownEvent_completes (h : (f s).pending = s.pending) : Completes s (.next (ownEvent s f)) :=
  ⟨_, rfl, ownEvent_of (P := fun t => t.pending = s.pending) rfl fun _ => h⟩

end Ways

theorem badOffset_completes (s : State) (p : Port) (access : BadAccess) : Completes s (execBadOffset p access s) := by
  cases access with
  | narrowRead offset => exact readAccess_completes rfl
  | narrowWrite offset => exact writeAccess_completes rfl
  | unmappedRead offset =>
    simp only [execBadOffset]
    split
    · exact ⟨s, rfl, rfl⟩
    · exact readAccess_completes rfl
  | unmappedWrite offset =>
    simp only [execBadOffset]
    split
    · exact ⟨s, rfl, rfl⟩
    · exact writeAccess_completes rfl

theorem portReset_completes (s : State) (p : Port) (level : PinLevel) : Completes s (execPortReset p level s) := by
  unfold execPortReset
  split
  · exact ⟨s, rfl, rfl⟩
  · cases level with
    | released => exact ⟨_, rfl, rfl⟩
    | asserted =>
      exact ⟨_, rfl, ownEvent_of (P := fun t => t.pending = s.pending) rfl fun _ => (detach_event s p).pending⟩

theorem deviceResetEnd_completes (s : State) (straps : Straps) : Completes s (execDeviceResetEnd straps s) := by
  refine ⟨_, rfl, ?_⟩
  split <;> rfl

/-- A grant takes the channel and what its requester takes, or faults; a command without one changes nothing (R139). -/
theorem execGrantEvent_cases (s : State) : Completes s (execGrantEvent s) ∨ ∃ r, execGrantEvent s = .fault r := by
  have same : Completes s (.next s) := ⟨s, rfl, rfl⟩
  unfold execGrantEvent State.grantEvent State.startAccess
  split
  · exact .inl same
  split
  · split
    · split
      · refine .inl ⟨_, rfl, ?_⟩
        unfold State.takeGrant
        split
        · rfl
        · rfl
        · split <;> rfl
        · rfl
      · exact .inr ⟨_, rfl⟩
    · exact .inl same
  · exact .inl same

/-! ### Every command -/

theorem exec_completes {c : Instr} (s : State) (other : c ≠ .grantEvent) : Completes s (exec c s) := by
  cases c with
  | grantEvent => exact absurd rfl other
  | deviceReset => exact ⟨_, rfl, rfl⟩
  | deviceResetEnd straps => exact deviceResetEnd_completes s straps
  | portReset p level => exact portReset_completes s p level
  | configWrite p f w => exact writeAccess_completes (writeConfig_pending s p f w)
  | commit p w => exact writeAccess_completes (takeCommit_pending s p)
  | fill p tag notify => exact writeAccess_completes (submit_event s p _).pending
  | pattern p tag notify => exact writeAccess_completes (submit_event s p _).pending
  | copy p tag notify => exact writeAccess_completes (submit_event s p _).pending
  | upload p tag notify => exact writeAccess_completes (submit_event s p _).pending
  | readback p tag notify => exact writeAccess_completes (submit_event s p _).pending
  | fence p token => exact writeAccess_completes (submit_event s p _).pending
  | badKind p kind => cases kind <;> exact writeAccess_completes (submit_event s p _).pending
  | request p => exact writeAccess_completes (request_frame s p).pending
  | release p n => exact writeAccess_completes (release_frame s p n).pending
  | setVisible p n v => exact writeAccess_completes (setVisible_frame s p n v).pending
  | cancel p => exact writeAccess_completes (cancel_frame s p).pending
  | uploadPush p w => exact writeAccess_completes (pushUpload_event s p w).pending
  | readbackPop p => exact readAccess_completes (popReadback_event s p).pending
  | noticeWord1 | accessError | lossCount => exact readAccess_completes rfl
  | abort p => exact writeAccess_completes (abort_event s p).pending
  | detach p abortToo => cases abortToo <;> exact writeAccess_completes (detach_event s p).pending
  | intEnable | noticeEnable => exact writeAccess_completes rfl
  | registerWrite p offset w => exact writeAccess_completes (writeOffset_pending s p offset w)
  | badOffset p access => exact badOffset_completes s p access
  | leaseTimeout p => exact ownEvent_completes (timeoutLease_frame s p).pending
  | dataTimeout => exact ownEvent_completes (timeoutData_event s).pending
  | frameStart => exact ownEvent_completes (frameStart_pending s)
  | lineDue => exact ownEvent_completes (lineDue_pending s)
  | underfillCompletion => exact ownEvent_completes (underfillCompletion_pending s)
  | blockWriteCompletion => exact ownEvent_completes (blockWriteCompletion_pending s)
  | engineReadDelivery => exact ownEvent_completes (engineReadDelivery_pending s)
  | fetchCompletion => exact ownEvent_completes (fetchCompletion_pending s)
  | clearWriteCompletion => exact ownEvent_completes (clearWriteCompletion_pending s)
  | choiceEvent => exact ownEvent_completes (choiceEvent_event s).pending
  | fenceTake p => exact ownEvent_completes (fenceTake_event s p).pending
  | spanPost => exact ownEvent_completes (spanPost_event s).pending
  | forwardedRead => exact ownEvent_completes (forwardedRead_event s).pending
  | uploadPop => exact ownEvent_completes (uploadPop_event s).pending
  | readbackPush => exact ownEvent_completes (readbackPush_event s).pending
  | spanSkip => exact ownEvent_completes (spanSkip_event s).pending
  | markEvent => exact ownEvent_completes (markEvent_event s).pending
  | commandEnd => exact ownEvent_completes (commandEnd_event s).pending
  | trailingBlankLine => exact ownEvent_completes (trailingBlankLine_pending s)

/-- Every command completes, but for the fault of a grant. -/
theorem exec_cases (c : Instr) (s : State) : Completes s (exec c s) ∨ ∃ r, exec c s = .fault r := by
  by_cases grant : c = .grantEvent
  · subst grant; exact execGrantEvent_cases s
  · exact .inl (exec_completes s grant)

/-- Settles O3: a completed command is no refusal and keeps the queue, and only a grant can end in another way, in its fault. -/
theorem commandsCompleteAndLeaveTheQueue : Obligations.CommandsCompleteAndLeaveTheQueue := by
  intro c s
  refine ⟨fun other => ?_, ?_⟩
  · obtain ⟨t, e, -⟩ := exec_completes s other
    exact ⟨t, e⟩
  · rcases exec_cases c s with ⟨t, e, pending⟩ | ⟨r, e⟩
    · rw [e]
      refine ⟨fun _ h => (nomatch h), fun u h => ?_⟩
      cases h
      exact pending
    · rw [e]
      exact ⟨fun _ h => (nomatch h), fun _ h => nomatch h⟩

end Sys2Proof.Machine
end

section
/-! SUPPORT. Notices at a Host Port Unit: a posting, the notice words, the reads that act, the enables and the interrupt line
(R161, R170, R172, R173, R175 to R179, R181, R189). -/

namespace Sys2Proof.Machine

open Sys2Proof.Claims

/-! ### The numbers of a notice (R176, R189) -/

theorem kindCode_eq (n : Notice) : n.kindCode = kindNumber n := by cases n <;> rfl

theorem kindNumber_range (n : Notice) : kindNumber n < 14 ∧ kindNumber n ≠ 0 ∧ kindNumber n ≠ 3 := by
  cases n <;> simp [kindNumber]

theorem faultCode_toNat (c : FaultCode) : c.code.toNat = faultNumber c := by cases c <;> rfl

/-- A handle in field A: the slot below bit 8 and the generation above it (section 12.5). -/
theorem handleField_toNat (h : Handle) : (handleField h).toNat = handleNumber h := by
  have slot : h.slot.val < 2 ^ 8 := lt_trans h.slot.isLt (by decide)
  have generation := h.generation.isLt
  have low : (BitVec.ofNat 16 h.slot.val).toNat = h.slot.val := by
    rw [BitVec.toNat_ofNat]; exact Nat.mod_eq_of_lt (by omega)
  have high : (h.generation.setWidth 16 <<< 8).toNat = h.generation.toNat <<< 8 := by
    rw [BitVec.toNat_shiftLeft, BitVec.toNat_setWidth_of_le (by decide), Nat.shiftLeft_eq]
    exact Nat.mod_eq_of_lt (by omega)
  rw [handleField, BitVec.toNat_or, low, high, Nat.or_comm, ← Nat.shiftLeft_add_eq_or_of_lt slot, Nat.shiftLeft_eq,
    handleNumber]
  omega

theorem fieldA_toNat (n : Notice) : n.fieldA.toNat = fieldANumber n := by
  cases n with
  | leaseGranted h | windowRevoked h _ | windowFreed h => exact handleField_toNat h
  | commandDone tag | commandFault tag _ _ => exact BitVec.toNat_setWidth_of_le (by decide)
  | leaseTimedOut | queueAborted | fenceDone | frameStarted | underrun | surfaceReady | configRejected => rfl

theorem fieldB_toNat (n : Notice) : n.fieldB.toNat = fieldBNumber n := by
  cases n with
  | windowRevoked _ requester => cases requester <;> rfl
  | commandFault _ code _ => exact faultCode_toNat code
  | queueAborted | underrun => exact BitVec.toNat_ofNat _ _
  | configRejected code => exact (BitVec.toNat_setWidth_of_le (by decide)).trans (commitCode_toNat code)
  | leaseGranted | leaseTimedOut | windowFreed | commandDone | fenceDone | frameStarted | surfaceReady => rfl

theorem spans_toNat (n : Notice) : n.spans.toNat = spansNumber n := by
  cases n with
  | commandFault => exact BitVec.toNat_ofNat _ _
  | _ => rfl

theorem noticeWord0_toNat (n : Notice) (rest : List Notice) :
    (noticeWord0 (n :: rest)).toNat = kindNumber n + 65536 * fieldANumber n := by
  have small := kindNumber_range n
  have kind : (BitVec.ofNat 4 n.kindCode).toNat = kindNumber n := by
    rw [kindCode_eq, BitVec.toNat_ofNat]; exact Nat.mod_eq_of_lt (by omega)
  have one := place_zero_toNat (BitVec.ofNat 4 n.kindCode) (by decide)
  have two := or_place_toNat n.fieldA (low := 16) (w := place _ 0) (by rw [one, kind]; omega) (by decide)
  rw [noticeWord0, two, one, kind, fieldA_toNat]
  omega

theorem noticeWord1_toNat (n : Notice) (rest : List Notice) :
    (noticeWord1 (n :: rest)).toNat = fieldBNumber n + 65536 * spansNumber n := by
  have first := n.fieldB.isLt
  have one := place_zero_toNat n.fieldB (by decide)
  have two := or_place_toNat n.spans (low := 16) (w := place _ 0) (by rw [one]; omega) (by decide)
  rw [noticeWord1, two, one, fieldB_toNat, spans_toNat]
  omega

/-! ### A posting (R177, R178) -/

theorem offer_eq (n : Notice) (hp : HostPort) : hp.offer n =
    if hp.noticeEnable.getLsbD (kindNumber n) = false then hp
    else if hp.notices.length < 16 then { hp with notices := hp.notices ++ [n] }
    else { hp with lossCount := if 255 ≤ hp.lossCount then 255 else hp.lossCount + 1 } := by
  have count : min 255 (hp.lossCount + 1) = if 255 ≤ hp.lossCount then 255 else hp.lossCount + 1 := by
    split <;> omega
  rw [HostPort.offer, noticeEnabled, kindCode_eq, noticeCapacity, count]
  cases hp.noticeEnable.getLsbD (kindNumber n) <;> rfl

/-! ### The interrupt line (R173) -/

theorem interruptLine_iff (s : State) (p : Port) : s.interruptLine p = true ↔
    (s.ports.get p).intEnable = true ∧ (s.ports.get p).notices ≠ [] := by
  simp [State.interruptLine]

/-- The line follows the enable and the queue of its port alone. -/
theorem interruptLine_congr {s t : State} {p : Port} (enable : (t.ports.get p).intEnable = (s.ports.get p).intEnable)
    (notices : (t.ports.get p).notices = (s.ports.get p).notices) : t.interruptLine p = s.interruptLine p := by
  rw [State.interruptLine, enable, notices, State.interruptLine]

/-! ### The reads that act (R161, R170, R178, R179) -/

section Taken

variable {s : State} {p : Port} (taken : s.takes p)
include taken

theorem exec_noticeWord1 : exec (.noticeWord1 p) s = .next (s.onPort p fun hp =>
    { hp with notices := hp.notices.tail, readData := readValue s p 0x64 }) := by
  rw [readValue_of_takes taken (r := .noticeWord1) rfl]
  exact congrArg Host.Outcome.next ((readAccess_of_takes taken _ _).trans (State.onPort_onPort _ _ _ _))

theorem exec_accessError : exec (.accessError p) s = .next (s.onPort p fun hp =>
    { hp with accessError := .none, readData := readValue s p 0x70 }) := by
  rw [readValue_of_takes taken (r := .accessError) rfl]
  exact congrArg Host.Outcome.next ((readAccess_of_takes taken _ _).trans (State.onPort_onPort _ _ _ _))

theorem exec_lossCount : exec (.lossCount p) s = .next (s.onPort p fun hp =>
    { hp with lossCount := 0, readData := readValue s p 0x74 }) := by
  rw [readValue_of_takes taken (r := .lossCount) rfl]
  exact congrArg Host.Outcome.next ((readAccess_of_takes taken _ _).trans (State.onPort_onPort _ _ _ _))

theorem readValue_lossCount (bounded : (s.ports.get p).lossCount ≤ 255) :
    (readValue s p 0x74).toNat = (s.ports.get p).lossCount := by
  rw [readValue_of_takes taken (r := .lossCount) rfl]
  refine (place_zero_toNat _ (by decide)).trans ?_
  rw [BitVec.toNat_ofNat]
  exact Nat.mod_eq_of_lt (by omega)

theorem takes_onPort {f : HostPort → HostPort} (pin : (f (s.ports.get p)).resetPin = (s.ports.get p).resetPin) :
    (s.onPort p f).takes p := ⟨taken.1, by rw [State.onPort_get_self, pin, taken.2]⟩

theorem exec_intEnable (w : Word) : exec (.intEnable p w) s = .next (s.writeIntEnable p w) :=
  congrArg Host.Outcome.next (writeAccess_of_takes taken _)

theorem exec_noticeEnable (w : Word) : exec (.noticeEnable p w) s = .next (s.writeNoticeEnable p w) :=
  congrArg Host.Outcome.next (writeAccess_of_takes taken _)

end Taken

/-! ### What NOTICE_ENABLE stores (R181) -/

/-- Its 14 bits are those of the kinds of R176. -/
theorem noticeMask_getLsbD (k : Nat) : (0x3FF6 : BitVec 14).getLsbD k = decide (k < 14 ∧ k ≠ 0 ∧ k ≠ 3) := by
  by_cases small : k < 14
  · have each : ∀ i : Fin 14, (0x3FF6 : BitVec 14).getLsbD i = decide (i.val < 14 ∧ i.val ≠ 0 ∧ i.val ≠ 3) := by decide
    exact each ⟨k, small⟩
  · rw [BitVec.getLsbD_of_ge _ _ (Nat.not_lt.mp small), decide_eq_false fun h => small h.1]

theorem noticeMaskOf_getLsbD (w : Word) (k : Nat) :
    (noticeMaskOf w).getLsbD k = (w.getLsbD k && decide (k < 14 ∧ k ≠ 0 ∧ k ≠ 3)) := by
  rw [noticeMaskOf, BitVec.getLsbD_and, noticeMask_getLsbD, field, BitVec.getLsbD_extractLsb', Nat.zero_add]
  by_cases small : k < 14 <;> simp [small]

theorem place_noticeMaskOf (w : Word) : place (noticeMaskOf w) 0 = w &&& 0x3FF6 := by
  refine BitVec.eq_of_getLsbD_eq fun i bit => ?_
  have mask : (0x3FF6 : Word).getLsbD i = (0x3FF6 : BitVec 14).getLsbD i := by
    rw [show (0x3FF6 : Word) = (0x3FF6 : BitVec 14).setWidth 32 from rfl, BitVec.getLsbD_setWidth, decide_eq_true bit,
      Bool.true_and]
  rw [place, BitVec.shiftLeft_zero, BitVec.getLsbD_setWidth, decide_eq_true bit, Bool.true_and, noticeMaskOf_getLsbD,
    BitVec.getLsbD_and, mask, noticeMask_getLsbD]

theorem noticeEnabled_noticeMaskOf (w : Word) (n : Notice) :
    noticeEnabled (noticeMaskOf w) n = w.getLsbD (kindNumber n) := by
  rw [noticeEnabled, kindCode_eq, noticeMaskOf_getLsbD, decide_eq_true (kindNumber_range n), Bool.and_true]

/-! ### The obligations -/

/-- Settles O50: the posting is the offer to the unit, the read of the count clears it, and a detach leaves the unit at its reset
values. -/
theorem lossCountRule : Obligations.LossCountRule := by
  refine ⟨fun s p n => ?_, fun s p taken bounded => ?_, fun s t p e => ?_, fun c s t p pin running detach e => ?_,
    fun s p q n => ?_⟩
  · exact State.onPort_congr (offer_eq n _)
  · exact ⟨_, exec_lossCount taken, rfl, readValue_lossCount taken bounded⟩
  · cases e
    rw [assertReset_port]
    rfl
  · have detaches : Detaches c p s := by
      rcases detach with rfl | rfl | rfl
      · exact .inl ⟨⟨running, pin⟩, false, rfl⟩
      · exact .inl ⟨⟨running, pin⟩, true, rfl⟩
      · exact .inr ⟨running, pin, rfl⟩
    obtain ⟨u, event, unit, -⟩ := detachAfterEvaluation c p s detaches
    cases event.symm.trans e
    rw [unit]
    rfl
  · by_cases own : q = p
    · subst own
      exact interruptLine_congr (by rw [State.onPort_get_self]) (by rw [State.onPort_get_self])
    · exact interruptLine_congr (by rw [State.onPort_get_of_ne _ _ own]) (by rw [State.onPort_get_of_ne _ _ own])

/-- Settles O51: the word returned is the register's, and the words of the head notice are laid out from its fields. -/
theorem actingReads : Obligations.ActingReads := by
  intro p s taken
  have word0 : readValue s p 0x60 = noticeWord0 (s.ports.get p).notices :=
    readValue_of_takes taken (r := .noticeWord0) rfl
  have word1 : readValue s p 0x64 = noticeWord1 (s.ports.get p).notices :=
    readValue_of_takes taken (r := .noticeWord1) rfl
  refine ⟨fun n rest head => ⟨_, ?_, rfl, ?_, ?_⟩, fun empty => ⟨?_, ?_⟩, _, exec_accessError taken, rfl, ?_⟩
  · rw [exec_noticeWord1 taken]
    exact congrArg Host.Outcome.next (State.onPort_congr (by rw [head, List.tail_cons]))
  · rw [word1, head, noticeWord1_toNat]
  · rw [word0, head, noticeWord0_toNat]
  · rw [word0, empty]; rfl
  · have tail : (s.ports.get p).notices.tail = (s.ports.get p).notices := by rw [empty, List.tail_nil]
    have zero : readValue s p 0x64 = 0 := by rw [word1, empty]; rfl
    rw [exec_noticeWord1 taken, zero]
    exact congrArg Host.Outcome.next (State.onPort_congr (by rw [tail]))
  · rw [readValue_of_takes taken (r := .accessError) rfl]
    exact (place_zero_toNat _ (by decide)).trans (accessErrorCode_toNat _)

/-- Settles O52: each write stores its flags, which the register and the line show. -/
theorem enablesAndInterruptLine : Obligations.EnablesAndInterruptLine := by
  intro p w s taken
  refine ⟨⟨_, exec_intEnable taken w, rfl, ?_, ?_⟩, ⟨_, noticeMaskOf w, exec_noticeEnable taken w, rfl,
    noticeMaskOf_getLsbD w, ?_, noticeEnabled_noticeMaskOf w⟩⟩
  · rw [State.writeIntEnable, readValue_of_takes (takes_onPort taken rfl) (r := .intEnable) rfl]
    simp only [readRegister, State.onPort_get_self, flag]
    cases w.getLsbD 0 <;> rfl
  · rw [interruptLine_iff, State.writeIntEnable, State.onPort_get_self]
    rfl
  · rw [State.writeNoticeEnable, readValue_of_takes (takes_onPort taken rfl) (r := .noticeEnable) rfl]
    simp only [readRegister, State.onPort_get_self]
    exact place_noticeMaskOf w

end Sys2Proof.Machine
end

section
/-! SUPPORT. The staging registers and the bad accesses: which offsets hold a register, what a word written to a register with no
command row of its own stores and reads back, and what an access at a bad offset leaves (R162, R164, R166, R172, R187, R188). -/

namespace Sys2Proof.Machine

open Sys2Proof.Claims

/-! ### The register map (R162, R187) -/

/-- A register stands at the offset of its row. -/
theorem registerAt_eq_some {offset : BitVec 8} {r : Register} (mapped : registerAt offset = some r) :
    ∃ row ∈ registerMap, row.register = r ∧ row.offset = offset.toNat := by
  obtain ⟨row, found, register⟩ := Option.map_eq_some_iff.mp mapped
  exact ⟨row, List.mem_of_find?_eq_some found, register, by simpa using List.find?_some found⟩

/-- No register stands at two offsets. -/
theorem registerAt_inj {offset other : BitVec 8} {r : Register} (mapped : registerAt offset = some r)
    (mapped' : registerAt other = some r) : offset = other := by
  obtain ⟨row, mem, register, stands⟩ := registerAt_eq_some mapped
  obtain ⟨row', mem', register', stands'⟩ := registerAt_eq_some mapped'
  have once : (registerMap.map RegisterRow.register).Nodup := by decide
  have same : row = row' := List.inj_on_of_nodup_map once mem mem' (register.trans register'.symm)
  exact BitVec.eq_of_toNat_eq (by rw [← stands, ← stands', same])

/-- The offsets of the map: 44 from 0x00 on and 16 from 0xC0 on, each four after the one before. -/
theorem registerMap_offsets : registerMap.map RegisterRow.offset =
    (List.range 44).map (fun i => 4 * i) ++ (List.range 16).map (fun i => 0xC0 + 4 * i) := rfl

theorem registerAt_isSome_iff (offset : BitVec 8) : (registerAt offset).isSome = true ↔
    4 ∣ offset.toNat ∧ (offset.toNat ≤ 0xAC ∨ 0xC0 ≤ offset.toNat) := by
  have listed : (registerAt offset).isSome = true ↔ offset.toNat ∈ registerMap.map RegisterRow.offset := by
    simp [registerAt, rowAt, List.find?_isSome]
  have small := offset.isLt
  rw [listed, registerMap_offsets, List.mem_append, List.mem_map, List.mem_map]
  simp only [List.mem_range]
  constructor
  · rintro (⟨i, bound, e⟩ | ⟨i, bound, e⟩)
    · exact ⟨⟨i, e.symm⟩, .inl (by omega)⟩
    · exact ⟨⟨48 + i, by omega⟩, .inr (by omega)⟩
  · rintro ⟨⟨i, e⟩, low | high⟩
    · exact .inl ⟨i, by omega, e.symm⟩
    · exact .inr ⟨i - 48, by omega, by omega⟩

/-! ### Fields of a written word (R188) -/

/-- A field read back at its place is the word's bits there. -/
theorem place_field (w : Word) (low n : Nat) : place (field w low n) low = w &&& place (BitVec.allOnes n) low := by
  refine BitVec.eq_of_getLsbD_eq fun i bit => ?_
  simp only [place, field, BitVec.getLsbD_and, BitVec.getLsbD_shiftLeft, BitVec.getLsbD_setWidth,
    BitVec.getLsbD_extractLsb', BitVec.getLsbD_allOnes]
  by_cases above : low ≤ i
  · rw [Nat.add_sub_cancel' above]
    cases w.getLsbD i <;> simp
  · simp [Nat.not_le.mp above]

theorem placeFlag_flag (w : Word) (i : Nat) : placeFlag (flag w i) i = w &&& placeFlag true i := by
  have bit : BitVec.ofBool (flag w i) = field w i 1 := by
    refine BitVec.eq_of_getLsbD_eq fun j small => ?_
    obtain rfl : j = 0 := by omega
    simp [flag, field]
  rw [placeFlag, bit, place_field]
  rfl

/-! ### The staging registers (R164, R166) -/

/-- The bits that a register holds for a later command; none for a register that is no staging register. -/
def stagedBits : Register → Option Word
  | .cmdHandle | .cmdSrcHandle => some 0x0000FF3F
  | .cmdRegionXY | .cmdRegionWH | .cmdSrcXY | .leaseRegionXY | .leaseRegionWH => some 0x0FFF0FFF
  | .cmdRopMask => some 0xFFFF000F
  | .cmdColour => some 0x0000FFFF
  | .cmdFgBg | .cmdPattern0 | .cmdPattern1 => some 0xFFFFFFFF
  | .cmdOrigin => some 0x00010F0F
  | .cmdSrcKey => some 0x0001FFFF
  | .leaseLayerRights => some 0x00000707
  | .leaseVisKey => some 0x0101FFFF
  | .leaseFlags => some 0x0003FFFF
  | _ => none

/-- They are those that sections 12.3 and 12.4 give at the register's offset. -/
theorem stagedBits_eq {offset : BitVec 8} {r : Register} (mapped : registerAt offset = some r) :
    stagedBits r = stagingMask offset.toNat := by
  have table : ∀ row ∈ registerMap, stagedBits row.register = stagingMask row.offset :=
    List.map_inj_left.mp (rfl : registerMap.map (fun row => stagedBits row.register) =
      registerMap.map fun row => stagingMask row.offset)
  obtain ⟨row, mem, register, stands⟩ := registerAt_eq_some mapped
  rw [← register, ← stands, table row mem]

/-- A Host Port Unit after a word is written to a staging register: each of its two groups stores what it holds of the word. -/
def HostPort.stage (r : Register) (w : Word) (hp : HostPort) : HostPort :=
  { hp with command := storeCommand r w hp.command, lease := storeLease r w hp.lease }

theorem writeRegister_staged {r : Register} {m : Word} (staged : stagedBits r = some m) (s : State) (p : Port) (w : Word) :
    s.writeRegister p r w = s.onPort p (HostPort.stage r w) := by
  cases r with
  | cmdHandle | cmdRegionXY | cmdRegionWH | cmdRopMask | cmdColour | cmdFgBg | cmdPattern0 | cmdPattern1 | cmdOrigin
  | cmdSrcHandle | cmdSrcXY | cmdSrcKey | leaseLayerRights | leaseRegionXY | leaseRegionWH | leaseVisKey | leaseFlags => rfl
  | _ => cases staged

/-- A register that is neither a staging register nor another command's row takes no word. -/
theorem writeRegister_unstaged {r : Register} {w : Word} (unstaged : stagedBits r = none)
    (plain : writeHasOwnRow r w = false) (s : State) (p : Port) : s.writeRegister p r w = s := by
  cases r with
  | control =>
    obtain ⟨abort, detach⟩ := Bool.or_eq_false_iff.mp plain
    simp only [State.writeRegister, State.writeControl, abort, detach, Bool.false_eq_true, if_false]
  | submitResult | leaseResult | leaseHandle | readbackPop | noticeWord0 | noticeWord1 | portStatus | fifoStatus
  | accessError | lossCount | portInfo | pixelsWritten | pixelsKeyed | commandsDone | commandsFaulted | merges
  | fullForwards | underfills | voided | underruns | frames | commitResult | globalState => rfl
  | submit | leaseOp | uploadPush | intEnable | noticeEnable | config | commit => cases plain
  | _ => cases unstaged

/-! ### What a staging register reads (R188) -/

theorem readRegister_staged {r : Register} {m : Word} (staged : stagedBits r = some m) (s : State) (p : Port) (w : Word) :
    readRegister (s.onPort p (HostPort.stage r w)) p r = w &&& m := by
  cases r with
  | cmdPattern0 | cmdPattern1 =>
    cases staged
    simp only [readRegister, State.onPort_get_self]
    exact BitVec.and_allOnes.symm
  | cmdHandle | cmdRegionXY | cmdRegionWH | cmdRopMask | cmdColour | cmdFgBg | cmdOrigin | cmdSrcHandle | cmdSrcXY | cmdSrcKey
  | leaseLayerRights | leaseRegionXY | leaseRegionWH | leaseVisKey | leaseFlags =>
    cases staged
    simp only [readRegister, State.onPort_get_self, HostPort.stage, readCommand, storeCommand, readLease, storeLease,
      place_field, placeFlag_flag, ← BitVec.and_or_distrib_left]
    rfl
  | _ => cases staged

/-- A word stored in one register of a group leaves what the others of the group read. -/
theorem readCommand_storeCommand_of_ne {r other : Register} (ne : other ≠ r) (w : Word) (c : CommandStaging) :
    readCommand other (storeCommand r w c) = readCommand other c := by
  cases r with
  | cmdHandle | cmdRegionXY | cmdRegionWH | cmdRopMask | cmdColour | cmdFgBg | cmdPattern0 | cmdPattern1 | cmdOrigin
  | cmdSrcHandle | cmdSrcXY | cmdSrcKey => cases other <;> first | rfl | exact absurd rfl ne
  | _ => rfl

theorem readLease_storeLease_of_ne {r other : Register} (ne : other ≠ r) (w : Word) (l : LeaseStaging) :
    readLease other (storeLease r w l) = readLease other l := by
  cases r with
  | leaseLayerRights | leaseRegionXY | leaseRegionWH | leaseVisKey | leaseFlags =>
    cases other <;> first | rfl | exact absurd rfl ne
  | _ => rfl

/-- Where a port's unit differs in its staging groups alone, and they read the same in a register, so does the part. -/
theorem readRegister_congr {s : State} {p q : Port} {f : HostPort → HostPort} {r : Register} {c : CommandStaging}
    {l : LeaseStaging} (unit : (s.onPort p f).ports.get q = { s.ports.get q with command := c, lease := l })
    (command : readCommand r c = readCommand r (s.ports.get q).command)
    (lease : readLease r l = readLease r (s.ports.get q).lease) :
    readRegister (s.onPort p f) q r = readRegister s q r := by
  cases r with
  | cmdHandle | cmdRegionXY | cmdRegionWH | cmdRopMask | cmdColour | cmdFgBg | cmdPattern0 | cmdPattern1 | cmdOrigin
  | cmdSrcHandle | cmdSrcXY | cmdSrcKey => simp only [readRegister, unit, command]
  | leaseLayerRights | leaseRegionXY | leaseRegionWH | leaseVisKey | leaseFlags => simp only [readRegister, unit, lease]
  | portStatus => simp only [readRegister, portStatusWord, unit]; rfl
  | fifoStatus => simp only [readRegister, fifoStatusWord, unit]
  | submitResult | readbackPop | noticeWord0 | noticeWord1 | accessError | lossCount | intEnable | noticeEnable
  | pixelsWritten | pixelsKeyed | commandsDone | commandsFaulted => simp only [readRegister, unit]
  | submit | leaseOp | leaseResult | leaseHandle | uploadPush | portInfo | control | merges | fullForwards | underfills
  | voided | underruns | frames | config | commit | commitResult | globalState => rfl

/-- A word staged in one register is seen in no other register and at no other port. -/
theorem readRegister_stage_of_ne (s : State) {p q : Port} {r other : Register} (w : Word) (ne : q ≠ p ∨ other ≠ r) :
    readRegister (s.onPort p (HostPort.stage r w)) q other = readRegister s q other := by
  by_cases own : q = p
  · subst own
    have register : other ≠ r := ne.resolve_left fun h => h rfl
    exact readRegister_congr (State.onPort_get_self s q _) (readCommand_storeCommand_of_ne register w _)
      (readLease_storeLease_of_ne register w _)
  · exact readRegister_congr (State.onPort_get_of_ne s _ own) rfl rfl

theorem ignoresAccess_stage (s : State) (p q : Port) (r : Register) (w : Word) :
    (s.onPort p (HostPort.stage r w)).ignoresAccess q = s.ignoresAccess q := by
  by_cases own : q = p
  · subst own
    simp only [State.ignoresAccess, State.onPort_get_self, State.onPort_deviceReset]
    rfl
  · rw [State.ignoresAccess, State.onPort_get_of_ne _ _ own, State.onPort_deviceReset, State.ignoresAccess]

/-- The same of the offsets, at each of which another register stands, or none. -/
theorem readValue_stage_of_ne (s : State) {p q : Port} {offset other : BitVec 8} {r : Register}
    (mapped : registerAt offset = some r) (w : Word) (ne : q ≠ p ∨ other ≠ offset) :
    readValue (s.onPort p (HostPort.stage r w)) q other = readValue s q other := by
  rw [readValue, ignoresAccess_stage, readValue]
  cases mapped' : registerAt other with
  | none => rfl
  | some r' =>
    have apart : q ≠ p ∨ r' ≠ r := ne.imp_right fun h same => h (registerAt_inj mapped' (same ▸ mapped))
    simp only [readRegister_stage_of_ne s w apart]

/-! ### Register writes and bad accesses (R162, R188) -/

/-- A well-formed register write names a register whose write is no other command's row. -/
theorem plainRegisterWrite_iff (offset : BitVec 8) (w : Word) :
    plainRegisterWrite offset w = true ↔ ∃ r, registerAt offset = some r ∧ writeHasOwnRow r w = false := by
  unfold plainRegisterWrite
  cases registerAt offset <;> simp

theorem exec_registerWrite {s : State} {p : Port} (taken : s.takes p) {offset : BitVec 8} {r : Register}
    (mapped : registerAt offset = some r) (w : Word) : exec (.registerWrite p offset w) s = .next (s.writeRegister p r w) := by
  refine congrArg Host.Outcome.next ((writeAccess_of_takes taken _).trans ?_)
  rw [State.writeOffset, mapped]

/-- Settles the part of O53 on the register writes. -/
theorem registerWriteOutcome : Claims.RegisterWriteOutcome := by
  intro p offset w s taken wf
  obtain ⟨r, mapped, plain⟩ := (plainRegisterWrite_iff offset w).mp wf
  rw [exec_registerWrite taken mapped, ← stagedBits_eq mapped]
  refine ⟨fun m staged => ⟨_, rfl, ?_⟩, fun unstaged => by rw [writeRegister_unstaged unstaged plain]⟩
  rw [writeRegister_staged staged]
  refine ⟨?_, fun q o ne => readValue_stage_of_ne s mapped w ne, (s.ports.get p).stage r w, rfl, rfl⟩
  rw [readValue_of_takes (takes_onPort taken rfl) mapped, readRegister_staged staged]

/-- Settles the part of O53 on the accesses that are ignored with BAD_OFFSET. -/
theorem badOffsetOutcome : Claims.BadOffsetOutcome := by
  refine ⟨fun p access s taken wf => ?_, registerAt_isSome_iff⟩
  have read : readAccess s p 0 (fun t => t.setAccessError p .badOffset) =
      s.onPort p fun hp => { hp with accessError := .badOffset, readData := 0 } :=
    (readAccess_of_takes taken _ _).trans (State.onPort_onPort _ _ _ _)
  have write : writeAccess s p (fun t => t.setAccessError p .badOffset) =
      s.onPort p fun hp => { hp with accessError := .badOffset } := writeAccess_of_takes taken _
  cases access with
  | narrowRead offset => exact congrArg Host.Outcome.next read
  | narrowWrite offset => exact congrArg Host.Outcome.next write
  | unmappedRead offset =>
    have unmapped : registerAt offset = none := Option.isNone_iff_eq_none.mp wf
    simp only [exec, execBadOffset, unmapped, read]
    rfl
  | unmappedWrite offset =>
    have unmapped : registerAt offset = none := Option.isNone_iff_eq_none.mp wf
    simp only [exec, execBadOffset, unmapped, write]
    rfl

/-- Settles O53: the writes at offsets that hold a register, and the accesses at those that hold none. -/
theorem registerWritesAndBadOffsets : Obligations.RegisterWritesAndBadOffsets := ⟨registerWriteOutcome, badOffsetOutcome⟩

end Sys2Proof.Machine
end
